-- ==== Sys2Proof/Word.lean ====
section
/-! DEFINITION. The word types of the 8b/10b decode core (00_scope.md R5, R6): codewords, decoded
values and absolute sample indices. Everything the spec adds, shifts or masks is a bit vector;
counts are natural numbers. -/

namespace Sys2Proof

/-- A 10-bit codeword, bit 0 the most recently sampled bit (R5 `WIN_BITS`, R31). -/
abbrev Codeword := BitVec 10

/-- An absolute sample index of the captured channel, 64 bits (R5 `INDEX_BITS`, R16). -/
abbrev SampleIdx := BitVec 64

/-- A decoded value without its K flag (R5 `VALUE_BITS`, R23). -/
abbrev Value := BitVec 8

/-- The 9-bit form `is_k ++ value` (R23, R32). -/
abbrev Value9 := BitVec 9

/-- The first number that no 64-bit sample index can hold (R16, R62, R86). -/
abbrev indexLimit : Nat := 2 ^ 64

end Sys2Proof
end

