-- ==== Sys2Proof/Config.lean ====
section
/-! DEFINITION. What an implementation of the core fixes (00_scope.md R5), and the value the
spec leaves open. The open value is a constant with no body: a statement about it holds whatever it is. -/

namespace Sys2Proof

/-- The parameter `INITIAL_CENTER_OFFSET` (R5, R14, decision D8): where the first bit centre lies
after the first transition. The spec names these two functions of `(SPB, STC)` (log entry 6). -/
inductive CenterOffset where
  /-- `STC − SPB`, the default: the centre of the bit that begins at the first transition. -/
  | stcMinusSpb
  /-- `STC`, the alternative: one bit later. -/
  | stc
deriving DecidableEq, Repr

/-- The parameters of R5 that are not configuration registers. They are plain data so that a
statement over all states is a statement over all parameter values. -/
structure Params where
  /-- `CAPTURE_START` (decision D7). -/
  captureStart : SampleIdx
  /-- `INITIAL_CENTER_OFFSET` (decision D8). -/
  initialCenter : CenterOffset
  /-- `FLUSH_PENDING_AT_END` (decision D18). -/
  flushPendingAtEnd : Bool
deriving DecidableEq, Repr

/-- The parameter values R5 gives as defaults. -/
def Params.default : Params :=
  { captureStart := 0, initialCenter := .stcMinusSpb, flushPendingAtEnd := true }

/-- DESIGN CHOICE, log entry 8: the symbol start `IDXQ[9] − HALF` of R86 when `HALF` is the greater.
R86 says no run reaches that case, and states no result for it. -/
opaque Config.freeSpanStart : (oldest half : BitVec 64) → SampleIdx

end Sys2Proof
end

