-- ==== Sys2Proof/Syntax.lean ====
section
/-! DEFINITION. The enumerations of 00_scope.md R8, the table entry types of 10_state.md R27 and
42_codeword_lookup_table.md R90, and `Instr`: one constructor per row of spec/opcode_table.json.
A codeword is the core's instruction (30_encoding.md, preamble and R45). -/

namespace Sys2Proof

/-- Running disparity (R8, R20). -/
inductive Disparity where
  | negative | positive
deriving DecidableEq, Repr

/-- Disparity class of a codeword: the column of the table it stands in (R8, R52). -/
inductive DisparityClass where
  | negative | positive | neutral
deriving DecidableEq, Repr

/-- Kind of a symbol (R8, R110). -/
inductive SymbolKind where
  | data | control | error
deriving DecidableEq, Repr

/-- The disparity-violation annotation (R8, R101). -/
inductive Violation where
  | none | onesWhilePositive | zerosWhileNegative
deriving DecidableEq, Repr

/-- Synchronization state (R8, R19; two values, 90_conflicts.md C2). -/
inductive SyncState where
  | unsynchronized | synchronized
deriving DecidableEq, Repr

/-- The sequencing register's values (R8, R15). -/
inductive Phase where
  | idle | acquire | run | done
deriving DecidableEq, Repr

/-- An entry of the codeword table (R27). -/
inductive RomEntry where
  | miss
  | hit (value : Value) (isK : Bool) (dclass : DisparityClass)
deriving DecidableEq, Repr

/-- What `lookup` returns (R90). -/
structure LookupResult where
  value : Value
  isK : Bool
  dclass : DisparityClass
  valid : Bool
deriving DecidableEq, Repr

/-- The codewords the core decodes, one constructor per row of spec/opcode_table.json. `_neg` is the
RD− form of a symbol, `_pos` its RD+ form, no suffix the single form of a Neutral symbol (R52).
`invalid w` is the default row `INVALID` with the codeword that missed (R54, R93). -/
inductive Instr where
  | invalid (w : Codeword)
  | d0_0_pos
  | d0_0_neg
  | d1_0_pos
  | d1_0_neg
  | d2_0_pos
  | d2_0_neg
  | d3_0_pos
  | d3_0_neg
  | d4_0_pos
  | d4_0_neg
  | d5_0_pos
  | d5_0_neg
  | d6_0_pos
  | d6_0_neg
  | d7_0_pos
  | d7_0_neg
  | d8_0_pos
  | d8_0_neg
  | d9_0_pos
  | d9_0_neg
  | d10_0_pos
  | d10_0_neg
  | d11_0_pos
  | d11_0_neg
  | d12_0_pos
  | d12_0_neg
  | d13_0_pos
  | d13_0_neg
  | d14_0_pos
  | d14_0_neg
  | d15_0_pos
  | d15_0_neg
  | d16_0_pos
  | d16_0_neg
  | d17_0_pos
  | d17_0_neg
  | d18_0_pos
  | d18_0_neg
  | d19_0_pos
  | d19_0_neg
  | d20_0_pos
  | d20_0_neg
  | d21_0_pos
  | d21_0_neg
  | d22_0_pos
  | d22_0_neg
  | d23_0_pos
  | d23_0_neg
  | d24_0_pos
  | d24_0_neg
  | d25_0_pos
  | d25_0_neg
  | d26_0_pos
  | d26_0_neg
  | d27_0_pos
  | d27_0_neg
  | d28_0_pos
  | d28_0_neg
  | d29_0_pos
  | d29_0_neg
  | d30_0_pos
  | d30_0_neg
  | d31_0_pos
  | d31_0_neg
  | d0_1_pos
  | d0_1_neg
  | d1_1_pos
  | d1_1_neg
  | d2_1_pos
  | d2_1_neg
  | d3_1
  | d4_1_pos
  | d4_1_neg
  | d5_1
  | d6_1
  | d7_1_pos
  | d7_1_neg
  | d8_1_pos
  | d8_1_neg
  | d9_1
  | d10_1
  | d11_1
  | d12_1
  | d13_1
  | d14_1
  | d15_1_pos
  | d15_1_neg
  | d16_1_pos
  | d16_1_neg
  | d17_1
  | d18_1
  | d19_1
  | d20_1
  | d21_1
  | d22_1
  | d23_1_pos
  | d23_1_neg
  | d24_1_pos
  | d24_1_neg
  | d25_1
  | d26_1
  | d27_1_pos
  | d27_1_neg
  | d28_1
  | d29_1_pos
  | d29_1_neg
  | d30_1_pos
  | d30_1_neg
  | d31_1_pos
  | d31_1_neg
  | d0_2_pos
  | d0_2_neg
  | d1_2_pos
  | d1_2_neg
  | d2_2_pos
  | d2_2_neg
  | d3_2
  | d4_2_pos
  | d4_2_neg
  | d5_2
  | d6_2
  | d7_2_pos
  | d7_2_neg
  | d8_2_pos
  | d8_2_neg
  | d9_2
  | d10_2
  | d11_2
  | d12_2
  | d13_2
  | d14_2
  | d15_2_pos
  | d15_2_neg
  | d16_2_pos
  | d16_2_neg
  | d17_2
  | d18_2
  | d19_2
  | d20_2
  | d21_2
  | d22_2
  | d23_2_pos
  | d23_2_neg
  | d24_2_pos
  | d24_2_neg
  | d25_2
  | d26_2
  | d27_2_pos
  | d27_2_neg
  | d28_2
  | d29_2_pos
  | d29_2_neg
  | d30_2_pos
  | d30_2_neg
  | d31_2_pos
  | d31_2_neg
  | d0_3_pos
  | d0_3_neg
  | d1_3_pos
  | d1_3_neg
  | d2_3_pos
  | d2_3_neg
  | d3_3_pos
  | d3_3_neg
  | d4_3_pos
  | d4_3_neg
  | d5_3_pos
  | d5_3_neg
  | d6_3_pos
  | d6_3_neg
  | d7_3_pos
  | d7_3_neg
  | d8_3_pos
  | d8_3_neg
  | d9_3_pos
  | d9_3_neg
  | d10_3_pos
  | d10_3_neg
  | d11_3_pos
  | d11_3_neg
  | d12_3_pos
  | d12_3_neg
  | d13_3_pos
  | d13_3_neg
  | d14_3_pos
  | d14_3_neg
  | d15_3_pos
  | d15_3_neg
  | d16_3_pos
  | d16_3_neg
  | d17_3_pos
  | d17_3_neg
  | d18_3_pos
  | d18_3_neg
  | d19_3_pos
  | d19_3_neg
  | d20_3_pos
  | d20_3_neg
  | d21_3_pos
  | d21_3_neg
  | d22_3_pos
  | d22_3_neg
  | d23_3_pos
  | d23_3_neg
  | d24_3_pos
  | d24_3_neg
  | d25_3_pos
  | d25_3_neg
  | d26_3_pos
  | d26_3_neg
  | d27_3_pos
  | d27_3_neg
  | d28_3_pos
  | d28_3_neg
  | d29_3_pos
  | d29_3_neg
  | d30_3_pos
  | d30_3_neg
  | d31_3_pos
  | d31_3_neg
  | d0_4_pos
  | d0_4_neg
  | d1_4_pos
  | d1_4_neg
  | d2_4_pos
  | d2_4_neg
  | d3_4_pos
  | d3_4_neg
  | d4_4_pos
  | d4_4_neg
  | d5_4_pos
  | d5_4_neg
  | d6_4_pos
  | d6_4_neg
  | d7_4_pos
  | d7_4_neg
  | d8_4_pos
  | d8_4_neg
  | d9_4_pos
  | d9_4_neg
  | d10_4_pos
  | d10_4_neg
  | d11_4_pos
  | d11_4_neg
  | d12_4_pos
  | d12_4_neg
  | d13_4_pos
  | d13_4_neg
  | d14_4_pos
  | d14_4_neg
  | d15_4_pos
  | d15_4_neg
  | d16_4_pos
  | d16_4_neg
  | d17_4_pos
  | d17_4_neg
  | d18_4_pos
  | d18_4_neg
  | d19_4_pos
  | d19_4_neg
  | d20_4_pos
  | d20_4_neg
  | d21_4_pos
  | d21_4_neg
  | d22_4_pos
  | d22_4_neg
  | d23_4_pos
  | d23_4_neg
  | d24_4_pos
  | d24_4_neg
  | d25_4_pos
  | d25_4_neg
  | d26_4_pos
  | d26_4_neg
  | d27_4_pos
  | d27_4_neg
  | d28_4_pos
  | d28_4_neg
  | d29_4_pos
  | d29_4_neg
  | d30_4_pos
  | d30_4_neg
  | d31_4_pos
  | d31_4_neg
  | d0_5_pos
  | d0_5_neg
  | d1_5_pos
  | d1_5_neg
  | d2_5_pos
  | d2_5_neg
  | d3_5
  | d4_5_pos
  | d4_5_neg
  | d5_5
  | d6_5
  | d7_5_pos
  | d7_5_neg
  | d8_5_pos
  | d8_5_neg
  | d9_5
  | d10_5
  | d11_5
  | d12_5
  | d13_5
  | d14_5
  | d15_5_pos
  | d15_5_neg
  | d16_5_pos
  | d16_5_neg
  | d17_5
  | d18_5
  | d19_5
  | d20_5
  | d21_5
  | d22_5
  | d23_5_pos
  | d23_5_neg
  | d24_5_pos
  | d24_5_neg
  | d25_5
  | d26_5
  | d27_5_pos
  | d27_5_neg
  | d28_5
  | d29_5_pos
  | d29_5_neg
  | d30_5_pos
  | d30_5_neg
  | d31_5_pos
  | d31_5_neg
  | d0_6_pos
  | d0_6_neg
  | d1_6_pos
  | d1_6_neg
  | d2_6_pos
  | d2_6_neg
  | d3_6
  | d4_6_pos
  | d4_6_neg
  | d5_6
  | d6_6
  | d7_6_pos
  | d7_6_neg
  | d8_6_pos
  | d8_6_neg
  | d9_6
  | d10_6
  | d11_6
  | d12_6
  | d13_6
  | d14_6
  | d15_6_pos
  | d15_6_neg
  | d16_6_pos
  | d16_6_neg
  | d17_6
  | d18_6
  | d19_6
  | d20_6
  | d21_6
  | d22_6
  | d23_6_pos
  | d23_6_neg
  | d24_6_pos
  | d24_6_neg
  | d25_6
  | d26_6
  | d27_6_pos
  | d27_6_neg
  | d28_6
  | d29_6_pos
  | d29_6_neg
  | d30_6_pos
  | d30_6_neg
  | d31_6_pos
  | d31_6_neg
  | d0_7_pos
  | d0_7_neg
  | d1_7_pos
  | d1_7_neg
  | d2_7_pos
  | d2_7_neg
  | d3_7_pos
  | d3_7_neg
  | d4_7_pos
  | d4_7_neg
  | d5_7_pos
  | d5_7_neg
  | d6_7_pos
  | d6_7_neg
  | d7_7_pos
  | d7_7_neg
  | d8_7_pos
  | d8_7_neg
  | d9_7_pos
  | d9_7_neg
  | d10_7_pos
  | d10_7_neg
  | d11_7_pos
  | d11_7_neg
  | d12_7_pos
  | d12_7_neg
  | d13_7_pos
  | d13_7_neg
  | d14_7_pos
  | d14_7_neg
  | d15_7_pos
  | d15_7_neg
  | d16_7_pos
  | d16_7_neg
  | d17_7_pos
  | d17_7_neg
  | d18_7_pos
  | d18_7_neg
  | d19_7_pos
  | d19_7_neg
  | d20_7_pos
  | d20_7_neg
  | d21_7_pos
  | d21_7_neg
  | d22_7_pos
  | d22_7_neg
  | d23_7_pos
  | d23_7_neg
  | d24_7_pos
  | d24_7_neg
  | d25_7_pos
  | d25_7_neg
  | d26_7_pos
  | d26_7_neg
  | d27_7_pos
  | d27_7_neg
  | d28_7_pos
  | d28_7_neg
  | d29_7_pos
  | d29_7_neg
  | d30_7_pos
  | d30_7_neg
  | d31_7_pos
  | d31_7_neg
  | k28_0_pos
  | k28_0_neg
  | k28_1_pos
  | k28_1_neg
  | k28_2_pos
  | k28_2_neg
  | k28_3_pos
  | k28_3_neg
  | k28_4_pos
  | k28_4_neg
  | k28_5_pos
  | k28_5_neg
  | k28_6_pos
  | k28_6_neg
  | k23_7_pos
  | k23_7_neg
  | k27_7_pos
  | k27_7_neg
  | k28_7_pos
  | k28_7_neg
  | k29_7_pos
  | k29_7_neg
  | k30_7_pos
  | k30_7_neg
deriving DecidableEq, Repr

end Sys2Proof
end

