-- ==== Sys2Proof/Machine/Table.lean ====
section
/-! DEFINITION. The codeword table. First the sub-block tables and the construction of
30_encoding.md (R47 to R51), then the listing of 42_codeword_lookup_table.md section 2 and the
constant `rom` it gives (R27, R94), the lookup (R90 to R93), the name lookup (R95) and the
consistency check (R96). -/

namespace Sys2Proof.Machine

/-- The other running disparity (R50). -/
def flip : Disparity → Disparity
  | .negative => .positive
  | .positive => .negative

/-- A sub-block's pattern in the column of a running disparity, the RD− column first. -/
def column {α : Type} (minus plus : α) : Disparity → α
  | .negative => minus
  | .positive => plus

/-- The number of 1 bits (R6), counting from the bit numbered `n - 1` down. -/
def onesBelow {k : Nat} (v : BitVec k) : Nat → Nat
  | 0 => 0
  | n + 1 => (v.getLsbD n).toNat + onesBelow v n

/-- `popcount(v)` (R6). -/
def popcount {k : Nat} (v : BitVec k) : Nat := onesBelow v k

/-- The 5b/6b table's RD− column for `x` (R47). -/
def sixMinus : Nat → BitVec 6
  | 0 => 0b100111 | 1 => 0b011101 | 2 => 0b101101 | 3 => 0b110001
  | 4 => 0b110101 | 5 => 0b101001 | 6 => 0b011001 | 7 => 0b111000
  | 8 => 0b111001 | 9 => 0b100101 | 10 => 0b010101 | 11 => 0b110100
  | 12 => 0b001101 | 13 => 0b101100 | 14 => 0b011100 | 15 => 0b010111
  | 16 => 0b011011 | 17 => 0b100011 | 18 => 0b010011 | 19 => 0b110010
  | 20 => 0b001011 | 21 => 0b101010 | 22 => 0b011010 | 23 => 0b111010
  | 24 => 0b110011 | 25 => 0b100110 | 26 => 0b010110 | 27 => 0b110110
  | 28 => 0b001110 | 29 => 0b101110 | 30 => 0b011110 | _ => 0b101011

/-- The 5b/6b table's RD+ column for `x` (R47): the complement of the RD− pattern where the table
writes a second pattern, the same pattern where it writes "same". -/
def sixPlus : Nat → BitVec 6
  | 0 => 0b011000 | 1 => 0b100010 | 2 => 0b010010 | 3 => 0b110001
  | 4 => 0b001010 | 5 => 0b101001 | 6 => 0b011001 | 7 => 0b000111
  | 8 => 0b000110 | 9 => 0b100101 | 10 => 0b010101 | 11 => 0b110100
  | 12 => 0b001101 | 13 => 0b101100 | 14 => 0b011100 | 15 => 0b101000
  | 16 => 0b100100 | 17 => 0b100011 | 18 => 0b010011 | 19 => 0b110010
  | 20 => 0b001011 | 21 => 0b101010 | 22 => 0b011010 | 23 => 0b000101
  | 24 => 0b001100 | 25 => 0b100110 | 26 => 0b010110 | 27 => 0b001001
  | 28 => 0b001110 | 29 => 0b010001 | 30 => 0b100001 | _ => 0b010100

/-- `SixB(k, x)[rd]` of R50: the K28 row when `k = 1` and `x = 28`, else the row of `x` (R47). -/
def sixB (k : Bool) (x : Nat) (rd : Disparity) : BitVec 6 :=
  if k && x == 28 then column 0b001111 0b110000 rd else column (sixMinus x) (sixPlus x) rd

/-- `FourD(y)[rd]` of R50: the 3b/4b table for data with the primary pattern P7 (R48). -/
def fourD (y : Nat) (rd : Disparity) : BitVec 4 :=
  match y with
  | 0 => column 0b1011 0b0100 rd
  | 1 => column 0b1001 0b1001 rd
  | 2 => column 0b0101 0b0101 rd
  | 3 => column 0b1100 0b0011 rd
  | 4 => column 0b1101 0b0010 rd
  | 5 => column 0b1010 0b1010 rd
  | 6 => column 0b0110 0b0110 rd
  | _ => column 0b1110 0b0001 rd

/-- The alternate pattern A7 (R48). -/
def alternateSeven (rd : Disparity) : BitVec 4 := column 0b0111 0b1000 rd

/-- Where A7 replaces P7 (R48), with the disparity after the 6b sub-block. -/
def usesAlternate (x : Nat) (rd : Disparity) : Bool :=
  match rd with
  | .negative => x == 17 || x == 18 || x == 20
  | .positive => x == 11 || x == 13 || x == 14

/-- `FourK(y)[rd]` of R50: the 3b/4b table for control (R49). -/
def fourK (y : Nat) (rd : Disparity) : BitVec 4 :=
  match y with
  | 0 => column 0b1011 0b0100 rd
  | 1 => column 0b0110 0b1001 rd
  | 2 => column 0b1010 0b0101 rd
  | 3 => column 0b1100 0b0011 rd
  | 4 => column 0b1101 0b0010 rd
  | 5 => column 0b0101 0b1010 rd
  | 6 => column 0b1001 0b0110 rd
  | _ => column 0b0111 0b1000 rd

/-- `rd2` of R50: the running disparity after the 6b sub-block. -/
def afterSix (six : BitVec 6) (rd : Disparity) : Disparity :=
  if popcount six = 3 then rd else flip rd

/-- The 4b sub-block of R50, `rd2` the disparity after the 6b sub-block. -/
def fourB (k : Bool) (x y : Nat) (rd2 : Disparity) : BitVec 4 :=
  if k then fourK y rd2
  else if y == 7 && usesAlternate x rd2 then alternateSeven rd2
  else fourD y rd2

/-- `Codeword(k, x, y, rd)` (R50): `six` in `WIN[9:4]`, `four` in `WIN[3:0]` (R45). -/
def buildCodeword (k : Bool) (x y : Nat) (rd : Disparity) : Codeword :=
  sixB k x rd ++ fourB k x y (afterSix (sixB k x rd) rd)

/-- A row of the listing: the 9-bit value and the codewords of the RD− and RD+ columns, equal where
the listing says "same". -/
structure ListingRow where
  value9 : Value9
  minus : Codeword
  plus : Codeword
deriving DecidableEq, Repr

/-- The rows D0.0 to D31.0. -/
def listingD0 : List ListingRow :=
  [⟨0x000, 0x274, 0x18B⟩, ⟨0x001, 0x1D4, 0x22B⟩, ⟨0x002, 0x2D4, 0x12B⟩, ⟨0x003, 0x31B, 0x314⟩,
   ⟨0x004, 0x354, 0x0AB⟩, ⟨0x005, 0x29B, 0x294⟩, ⟨0x006, 0x19B, 0x194⟩, ⟨0x007, 0x38B, 0x074⟩,
   ⟨0x008, 0x394, 0x06B⟩, ⟨0x009, 0x25B, 0x254⟩, ⟨0x00A, 0x15B, 0x154⟩, ⟨0x00B, 0x34B, 0x344⟩,
   ⟨0x00C, 0x0DB, 0x0D4⟩, ⟨0x00D, 0x2CB, 0x2C4⟩, ⟨0x00E, 0x1CB, 0x1C4⟩, ⟨0x00F, 0x174, 0x28B⟩,
   ⟨0x010, 0x1B4, 0x24B⟩, ⟨0x011, 0x23B, 0x234⟩, ⟨0x012, 0x13B, 0x134⟩, ⟨0x013, 0x32B, 0x324⟩,
   ⟨0x014, 0x0BB, 0x0B4⟩, ⟨0x015, 0x2AB, 0x2A4⟩, ⟨0x016, 0x1AB, 0x1A4⟩, ⟨0x017, 0x3A4, 0x05B⟩,
   ⟨0x018, 0x334, 0x0CB⟩, ⟨0x019, 0x26B, 0x264⟩, ⟨0x01A, 0x16B, 0x164⟩, ⟨0x01B, 0x364, 0x09B⟩,
   ⟨0x01C, 0x0EB, 0x0E4⟩, ⟨0x01D, 0x2E4, 0x11B⟩, ⟨0x01E, 0x1E4, 0x21B⟩, ⟨0x01F, 0x2B4, 0x14B⟩]

/-- The rows D0.1 to D31.1. -/
def listingD1 : List ListingRow :=
  [⟨0x020, 0x279, 0x189⟩, ⟨0x021, 0x1D9, 0x229⟩, ⟨0x022, 0x2D9, 0x129⟩, ⟨0x023, 0x319, 0x319⟩,
   ⟨0x024, 0x359, 0x0A9⟩, ⟨0x025, 0x299, 0x299⟩, ⟨0x026, 0x199, 0x199⟩, ⟨0x027, 0x389, 0x079⟩,
   ⟨0x028, 0x399, 0x069⟩, ⟨0x029, 0x259, 0x259⟩, ⟨0x02A, 0x159, 0x159⟩, ⟨0x02B, 0x349, 0x349⟩,
   ⟨0x02C, 0x0D9, 0x0D9⟩, ⟨0x02D, 0x2C9, 0x2C9⟩, ⟨0x02E, 0x1C9, 0x1C9⟩, ⟨0x02F, 0x179, 0x289⟩,
   ⟨0x030, 0x1B9, 0x249⟩, ⟨0x031, 0x239, 0x239⟩, ⟨0x032, 0x139, 0x139⟩, ⟨0x033, 0x329, 0x329⟩,
   ⟨0x034, 0x0B9, 0x0B9⟩, ⟨0x035, 0x2A9, 0x2A9⟩, ⟨0x036, 0x1A9, 0x1A9⟩, ⟨0x037, 0x3A9, 0x059⟩,
   ⟨0x038, 0x339, 0x0C9⟩, ⟨0x039, 0x269, 0x269⟩, ⟨0x03A, 0x169, 0x169⟩, ⟨0x03B, 0x369, 0x099⟩,
   ⟨0x03C, 0x0E9, 0x0E9⟩, ⟨0x03D, 0x2E9, 0x119⟩, ⟨0x03E, 0x1E9, 0x219⟩, ⟨0x03F, 0x2B9, 0x149⟩]

/-- The rows D0.2 to D31.2. -/
def listingD2 : List ListingRow :=
  [⟨0x040, 0x275, 0x185⟩, ⟨0x041, 0x1D5, 0x225⟩, ⟨0x042, 0x2D5, 0x125⟩, ⟨0x043, 0x315, 0x315⟩,
   ⟨0x044, 0x355, 0x0A5⟩, ⟨0x045, 0x295, 0x295⟩, ⟨0x046, 0x195, 0x195⟩, ⟨0x047, 0x385, 0x075⟩,
   ⟨0x048, 0x395, 0x065⟩, ⟨0x049, 0x255, 0x255⟩, ⟨0x04A, 0x155, 0x155⟩, ⟨0x04B, 0x345, 0x345⟩,
   ⟨0x04C, 0x0D5, 0x0D5⟩, ⟨0x04D, 0x2C5, 0x2C5⟩, ⟨0x04E, 0x1C5, 0x1C5⟩, ⟨0x04F, 0x175, 0x285⟩,
   ⟨0x050, 0x1B5, 0x245⟩, ⟨0x051, 0x235, 0x235⟩, ⟨0x052, 0x135, 0x135⟩, ⟨0x053, 0x325, 0x325⟩,
   ⟨0x054, 0x0B5, 0x0B5⟩, ⟨0x055, 0x2A5, 0x2A5⟩, ⟨0x056, 0x1A5, 0x1A5⟩, ⟨0x057, 0x3A5, 0x055⟩,
   ⟨0x058, 0x335, 0x0C5⟩, ⟨0x059, 0x265, 0x265⟩, ⟨0x05A, 0x165, 0x165⟩, ⟨0x05B, 0x365, 0x095⟩,
   ⟨0x05C, 0x0E5, 0x0E5⟩, ⟨0x05D, 0x2E5, 0x115⟩, ⟨0x05E, 0x1E5, 0x215⟩, ⟨0x05F, 0x2B5, 0x145⟩]

/-- The rows D0.3 to D31.3. -/
def listingD3 : List ListingRow :=
  [⟨0x060, 0x273, 0x18C⟩, ⟨0x061, 0x1D3, 0x22C⟩, ⟨0x062, 0x2D3, 0x12C⟩, ⟨0x063, 0x31C, 0x313⟩,
   ⟨0x064, 0x353, 0x0AC⟩, ⟨0x065, 0x29C, 0x293⟩, ⟨0x066, 0x19C, 0x193⟩, ⟨0x067, 0x38C, 0x073⟩,
   ⟨0x068, 0x393, 0x06C⟩, ⟨0x069, 0x25C, 0x253⟩, ⟨0x06A, 0x15C, 0x153⟩, ⟨0x06B, 0x34C, 0x343⟩,
   ⟨0x06C, 0x0DC, 0x0D3⟩, ⟨0x06D, 0x2CC, 0x2C3⟩, ⟨0x06E, 0x1CC, 0x1C3⟩, ⟨0x06F, 0x173, 0x28C⟩,
   ⟨0x070, 0x1B3, 0x24C⟩, ⟨0x071, 0x23C, 0x233⟩, ⟨0x072, 0x13C, 0x133⟩, ⟨0x073, 0x32C, 0x323⟩,
   ⟨0x074, 0x0BC, 0x0B3⟩, ⟨0x075, 0x2AC, 0x2A3⟩, ⟨0x076, 0x1AC, 0x1A3⟩, ⟨0x077, 0x3A3, 0x05C⟩,
   ⟨0x078, 0x333, 0x0CC⟩, ⟨0x079, 0x26C, 0x263⟩, ⟨0x07A, 0x16C, 0x163⟩, ⟨0x07B, 0x363, 0x09C⟩,
   ⟨0x07C, 0x0EC, 0x0E3⟩, ⟨0x07D, 0x2E3, 0x11C⟩, ⟨0x07E, 0x1E3, 0x21C⟩, ⟨0x07F, 0x2B3, 0x14C⟩]

/-- The rows D0.4 to D31.4. -/
def listingD4 : List ListingRow :=
  [⟨0x080, 0x272, 0x18D⟩, ⟨0x081, 0x1D2, 0x22D⟩, ⟨0x082, 0x2D2, 0x12D⟩, ⟨0x083, 0x31D, 0x312⟩,
   ⟨0x084, 0x352, 0x0AD⟩, ⟨0x085, 0x29D, 0x292⟩, ⟨0x086, 0x19D, 0x192⟩, ⟨0x087, 0x38D, 0x072⟩,
   ⟨0x088, 0x392, 0x06D⟩, ⟨0x089, 0x25D, 0x252⟩, ⟨0x08A, 0x15D, 0x152⟩, ⟨0x08B, 0x34D, 0x342⟩,
   ⟨0x08C, 0x0DD, 0x0D2⟩, ⟨0x08D, 0x2CD, 0x2C2⟩, ⟨0x08E, 0x1CD, 0x1C2⟩, ⟨0x08F, 0x172, 0x28D⟩,
   ⟨0x090, 0x1B2, 0x24D⟩, ⟨0x091, 0x23D, 0x232⟩, ⟨0x092, 0x13D, 0x132⟩, ⟨0x093, 0x32D, 0x322⟩,
   ⟨0x094, 0x0BD, 0x0B2⟩, ⟨0x095, 0x2AD, 0x2A2⟩, ⟨0x096, 0x1AD, 0x1A2⟩, ⟨0x097, 0x3A2, 0x05D⟩,
   ⟨0x098, 0x332, 0x0CD⟩, ⟨0x099, 0x26D, 0x262⟩, ⟨0x09A, 0x16D, 0x162⟩, ⟨0x09B, 0x362, 0x09D⟩,
   ⟨0x09C, 0x0ED, 0x0E2⟩, ⟨0x09D, 0x2E2, 0x11D⟩, ⟨0x09E, 0x1E2, 0x21D⟩, ⟨0x09F, 0x2B2, 0x14D⟩]

/-- The rows D0.5 to D31.5. -/
def listingD5 : List ListingRow :=
  [⟨0x0A0, 0x27A, 0x18A⟩, ⟨0x0A1, 0x1DA, 0x22A⟩, ⟨0x0A2, 0x2DA, 0x12A⟩, ⟨0x0A3, 0x31A, 0x31A⟩,
   ⟨0x0A4, 0x35A, 0x0AA⟩, ⟨0x0A5, 0x29A, 0x29A⟩, ⟨0x0A6, 0x19A, 0x19A⟩, ⟨0x0A7, 0x38A, 0x07A⟩,
   ⟨0x0A8, 0x39A, 0x06A⟩, ⟨0x0A9, 0x25A, 0x25A⟩, ⟨0x0AA, 0x15A, 0x15A⟩, ⟨0x0AB, 0x34A, 0x34A⟩,
   ⟨0x0AC, 0x0DA, 0x0DA⟩, ⟨0x0AD, 0x2CA, 0x2CA⟩, ⟨0x0AE, 0x1CA, 0x1CA⟩, ⟨0x0AF, 0x17A, 0x28A⟩,
   ⟨0x0B0, 0x1BA, 0x24A⟩, ⟨0x0B1, 0x23A, 0x23A⟩, ⟨0x0B2, 0x13A, 0x13A⟩, ⟨0x0B3, 0x32A, 0x32A⟩,
   ⟨0x0B4, 0x0BA, 0x0BA⟩, ⟨0x0B5, 0x2AA, 0x2AA⟩, ⟨0x0B6, 0x1AA, 0x1AA⟩, ⟨0x0B7, 0x3AA, 0x05A⟩,
   ⟨0x0B8, 0x33A, 0x0CA⟩, ⟨0x0B9, 0x26A, 0x26A⟩, ⟨0x0BA, 0x16A, 0x16A⟩, ⟨0x0BB, 0x36A, 0x09A⟩,
   ⟨0x0BC, 0x0EA, 0x0EA⟩, ⟨0x0BD, 0x2EA, 0x11A⟩, ⟨0x0BE, 0x1EA, 0x21A⟩, ⟨0x0BF, 0x2BA, 0x14A⟩]

/-- The rows D0.6 to D31.6. -/
def listingD6 : List ListingRow :=
  [⟨0x0C0, 0x276, 0x186⟩, ⟨0x0C1, 0x1D6, 0x226⟩, ⟨0x0C2, 0x2D6, 0x126⟩, ⟨0x0C3, 0x316, 0x316⟩,
   ⟨0x0C4, 0x356, 0x0A6⟩, ⟨0x0C5, 0x296, 0x296⟩, ⟨0x0C6, 0x196, 0x196⟩, ⟨0x0C7, 0x386, 0x076⟩,
   ⟨0x0C8, 0x396, 0x066⟩, ⟨0x0C9, 0x256, 0x256⟩, ⟨0x0CA, 0x156, 0x156⟩, ⟨0x0CB, 0x346, 0x346⟩,
   ⟨0x0CC, 0x0D6, 0x0D6⟩, ⟨0x0CD, 0x2C6, 0x2C6⟩, ⟨0x0CE, 0x1C6, 0x1C6⟩, ⟨0x0CF, 0x176, 0x286⟩,
   ⟨0x0D0, 0x1B6, 0x246⟩, ⟨0x0D1, 0x236, 0x236⟩, ⟨0x0D2, 0x136, 0x136⟩, ⟨0x0D3, 0x326, 0x326⟩,
   ⟨0x0D4, 0x0B6, 0x0B6⟩, ⟨0x0D5, 0x2A6, 0x2A6⟩, ⟨0x0D6, 0x1A6, 0x1A6⟩, ⟨0x0D7, 0x3A6, 0x056⟩,
   ⟨0x0D8, 0x336, 0x0C6⟩, ⟨0x0D9, 0x266, 0x266⟩, ⟨0x0DA, 0x166, 0x166⟩, ⟨0x0DB, 0x366, 0x096⟩,
   ⟨0x0DC, 0x0E6, 0x0E6⟩, ⟨0x0DD, 0x2E6, 0x116⟩, ⟨0x0DE, 0x1E6, 0x216⟩, ⟨0x0DF, 0x2B6, 0x146⟩]

/-- The rows D0.7 to D31.7. -/
def listingD7 : List ListingRow :=
  [⟨0x0E0, 0x271, 0x18E⟩, ⟨0x0E1, 0x1D1, 0x22E⟩, ⟨0x0E2, 0x2D1, 0x12E⟩, ⟨0x0E3, 0x31E, 0x311⟩,
   ⟨0x0E4, 0x351, 0x0AE⟩, ⟨0x0E5, 0x29E, 0x291⟩, ⟨0x0E6, 0x19E, 0x191⟩, ⟨0x0E7, 0x38E, 0x071⟩,
   ⟨0x0E8, 0x391, 0x06E⟩, ⟨0x0E9, 0x25E, 0x251⟩, ⟨0x0EA, 0x15E, 0x151⟩, ⟨0x0EB, 0x34E, 0x348⟩,
   ⟨0x0EC, 0x0DE, 0x0D1⟩, ⟨0x0ED, 0x2CE, 0x2C8⟩, ⟨0x0EE, 0x1CE, 0x1C8⟩, ⟨0x0EF, 0x171, 0x28E⟩,
   ⟨0x0F0, 0x1B1, 0x24E⟩, ⟨0x0F1, 0x237, 0x231⟩, ⟨0x0F2, 0x137, 0x131⟩, ⟨0x0F3, 0x32E, 0x321⟩,
   ⟨0x0F4, 0x0B7, 0x0B1⟩, ⟨0x0F5, 0x2AE, 0x2A1⟩, ⟨0x0F6, 0x1AE, 0x1A1⟩, ⟨0x0F7, 0x3A1, 0x05E⟩,
   ⟨0x0F8, 0x331, 0x0CE⟩, ⟨0x0F9, 0x26E, 0x261⟩, ⟨0x0FA, 0x16E, 0x161⟩, ⟨0x0FB, 0x361, 0x09E⟩,
   ⟨0x0FC, 0x0EE, 0x0E1⟩, ⟨0x0FD, 0x2E1, 0x11E⟩, ⟨0x0FE, 0x1E1, 0x21E⟩, ⟨0x0FF, 0x2B1, 0x14E⟩]

/-- The twelve K-characters (R51). -/
def listingK : List ListingRow :=
  [⟨0x11C, 0x0F4, 0x30B⟩, ⟨0x13C, 0x0F9, 0x306⟩, ⟨0x15C, 0x0F5, 0x30A⟩, ⟨0x17C, 0x0F3, 0x30C⟩,
   ⟨0x19C, 0x0F2, 0x30D⟩, ⟨0x1BC, 0x0FA, 0x305⟩, ⟨0x1DC, 0x0F6, 0x309⟩, ⟨0x1F7, 0x3A8, 0x057⟩,
   ⟨0x1FB, 0x368, 0x097⟩, ⟨0x1FC, 0x0F8, 0x307⟩, ⟨0x1FD, 0x2E8, 0x117⟩, ⟨0x1FE, 0x1E8, 0x217⟩]

/-- The listing of 42_codeword_lookup_table.md section 2, in order of the 9-bit value (R94). -/
def listing : List ListingRow :=
  listingD0 ++ listingD1 ++ listingD2 ++ listingD3 ++ listingD4 ++ listingD5 ++ listingD6 ++
    listingD7 ++ listingK

/-- The table entry a row gives the codeword `w` standing in it (R94): class Neutral where both
columns are the one codeword, else the column's. -/
def ListingRow.entry (r : ListingRow) (w : Codeword) : RomEntry :=
  .hit (r.value9.extractLsb' 0 8) (r.value9.getLsbD 8)
    (if r.minus = r.plus then .neutral else if w = r.minus then .negative else .positive)

/-- The codeword stands in the row. -/
def ListingRow.holds (r : ListingRow) (w : Codeword) : Bool :=
  Nat.beq r.minus.toNat w.toNat || Nat.beq r.plus.toNat w.toNat

/-- The row of a codeword, if the listing holds it. -/
def rowOf (w : Codeword) : Option ListingRow := listing.find? fun r => r.holds w

/-- `ROM[w]` (R27, R94): a constant, written by no operation (R40, R97). -/
def rom (w : Codeword) : RomEntry :=
  match rowOf w with
  | some r => r.entry w
  | none => .miss

/-- The fields `lookup` returns for an entry: a hit (R91, R92), or the miss fields (R93). -/
def lookupFields : RomEntry → LookupResult
  | .hit v k c => { value := v, isK := k, dclass := c, valid := true }
  | .miss => { value := 0, isK := false, dclass := .neutral, valid := false }

/-- `lookup(w)` (R90): a pure function of the codeword. -/
def lookup (w : Codeword) : LookupResult := lookupFields (rom w)

/-- One decimal digit. -/
def digit (n : Nat) : Char := Char.ofNat (48 + n % 10)

/-- A number below 100 in decimal, without a leading zero (R57). -/
def decimal (n : Nat) : List Char := if n < 10 then [digit n] else [digit (n / 10), digit n]

/-- `name(value9)` (R95): "Dx.y" or "Kx.y", defined only for the 268 values the table holds. No rule
of the core reads it. -/
def symbolName (v : Value9) : Option String :=
  if listing.any (fun r => r.value9 == v) then
    some (String.ofList
      ((if v.getLsbD 8 then 'K' else 'D') :: decimal (v.extractLsb' 0 5).toNat ++
        '.' :: decimal (v.extractLsb' 5 3).toNat))
  else none

/-- The running disparities whose column a class names (R96). -/
def classColumns : DisparityClass → List Disparity
  | .negative => [.negative]
  | .positive => [.positive]
  | .neutral => [.negative, .positive]

/-- The consistency R96 asks of one codeword: if `ROM[w] = hit(v, k, c)` then the name lookup of
`k ++ v` succeeds and `w` is `Codeword(k, x, y, rd)` for every `rd` matching `c`. -/
def entryConsistent (w : Codeword) : Bool :=
  match rom w with
  | .miss => true
  | .hit v k c =>
    (symbolName (BitVec.ofBool k ++ v)).isSome &&
      (classColumns c).all fun rd =>
        buildCodeword k (v.extractLsb' 0 5).toNat (v.extractLsb' 5 3).toNat rd == w

/-- The codewords of the listing, in listing order. -/
def listedCodewords : List Codeword := listing.flatMap fun r => [r.minus, r.plus]

/-- The check of R96 over the whole table: the first codeword that fails it, if any. A codeword
outside the listing is a miss and passes. -/
def firstInconsistent : Option Codeword := listedCodewords.find? fun w => !entryConsistent w

end Sys2Proof.Machine
end

