-- ==== Sys2Proof/WellFormed.lean ====
section
/-! DEFINITION. Which instructions are well formed. A table codeword carries no operand, so it always
is; the default row `INVALID` applies only to a codeword no other row matches (30_encoding.md R54,
R59). -/

namespace Sys2Proof

/-- The operand of `invalid` is a codeword the table misses. -/
def Instr.wellFormed : Instr → Bool
  | .invalid w => Machine.rom w == .miss
  | _ => true

/-- `Instr.wellFormed` as a proposition. -/
abbrev Instr.WellFormed (i : Instr) : Prop := i.wellFormed = true

end Sys2Proof
end

