-- ==== Sys2Proof/Decode.lean ====
section
/-! DEFINITION. The decoder, total on the 1024 codewords and on every sequence of bits, and after it
the encoder, both written out from spec/opcode_table.json and 30_encoding.md R45: a codeword is a 6b
sub-block `abcdei` in `WIN[9:4]` and a 4b sub-block `fghj` in `WIN[3:0]`. -/

namespace Sys2Proof

/-- Why a sequence of bits is no codeword. -/
inductive DecodeError where
  /-- "Every codeword is exactly 10 bits" (R56). -/
  | notTenBits
deriving DecidableEq, Repr

/-- The rows of spec/opcode_table.json whose 6b sub-block is `six`, by their 4b sub-block. -/
def sixRows (six : BitVec 6) : List (BitVec 4 × Instr) :=
  match six.toNat with
  | 0b000101 => [(0b0101, .d23_2_pos), (0b0110, .d23_6_pos), (0b0111, .k23_7_pos), (0b1001, .d23_1_pos), (0b1010, .d23_5_pos), (0b1011, .d23_0_pos), (0b1100, .d23_3_pos), (0b1101, .d23_4_pos), (0b1110, .d23_7_pos)]
  | 0b000110 => [(0b0101, .d8_2_pos), (0b0110, .d8_6_pos), (0b1001, .d8_1_pos), (0b1010, .d8_5_pos), (0b1011, .d8_0_pos), (0b1100, .d8_3_pos), (0b1101, .d8_4_pos), (0b1110, .d8_7_pos)]
  | 0b000111 => [(0b0001, .d7_7_pos), (0b0010, .d7_4_pos), (0b0011, .d7_3_pos), (0b0100, .d7_0_pos), (0b0101, .d7_2_pos), (0b0110, .d7_6_pos), (0b1001, .d7_1_pos), (0b1010, .d7_5_pos)]
  | 0b001001 => [(0b0101, .d27_2_pos), (0b0110, .d27_6_pos), (0b0111, .k27_7_pos), (0b1001, .d27_1_pos), (0b1010, .d27_5_pos), (0b1011, .d27_0_pos), (0b1100, .d27_3_pos), (0b1101, .d27_4_pos), (0b1110, .d27_7_pos)]
  | 0b001010 => [(0b0101, .d4_2_pos), (0b0110, .d4_6_pos), (0b1001, .d4_1_pos), (0b1010, .d4_5_pos), (0b1011, .d4_0_pos), (0b1100, .d4_3_pos), (0b1101, .d4_4_pos), (0b1110, .d4_7_pos)]
  | 0b001011 => [(0b0001, .d20_7_pos), (0b0010, .d20_4_pos), (0b0011, .d20_3_pos), (0b0100, .d20_0_pos), (0b0101, .d20_2), (0b0110, .d20_6), (0b0111, .d20_7_neg), (0b1001, .d20_1), (0b1010, .d20_5), (0b1011, .d20_0_neg), (0b1100, .d20_3_neg), (0b1101, .d20_4_neg)]
  | 0b001100 => [(0b0101, .d24_2_pos), (0b0110, .d24_6_pos), (0b1001, .d24_1_pos), (0b1010, .d24_5_pos), (0b1011, .d24_0_pos), (0b1100, .d24_3_pos), (0b1101, .d24_4_pos), (0b1110, .d24_7_pos)]
  | 0b001101 => [(0b0001, .d12_7_pos), (0b0010, .d12_4_pos), (0b0011, .d12_3_pos), (0b0100, .d12_0_pos), (0b0101, .d12_2), (0b0110, .d12_6), (0b1001, .d12_1), (0b1010, .d12_5), (0b1011, .d12_0_neg), (0b1100, .d12_3_neg), (0b1101, .d12_4_neg), (0b1110, .d12_7_neg)]
  | 0b001110 => [(0b0001, .d28_7_pos), (0b0010, .d28_4_pos), (0b0011, .d28_3_pos), (0b0100, .d28_0_pos), (0b0101, .d28_2), (0b0110, .d28_6), (0b1001, .d28_1), (0b1010, .d28_5), (0b1011, .d28_0_neg), (0b1100, .d28_3_neg), (0b1101, .d28_4_neg), (0b1110, .d28_7_neg)]
  | 0b001111 => [(0b0010, .k28_4_neg), (0b0011, .k28_3_neg), (0b0100, .k28_0_neg), (0b0101, .k28_2_neg), (0b0110, .k28_6_neg), (0b1000, .k28_7_neg), (0b1001, .k28_1_neg), (0b1010, .k28_5_neg)]
  | 0b010001 => [(0b0101, .d29_2_pos), (0b0110, .d29_6_pos), (0b0111, .k29_7_pos), (0b1001, .d29_1_pos), (0b1010, .d29_5_pos), (0b1011, .d29_0_pos), (0b1100, .d29_3_pos), (0b1101, .d29_4_pos), (0b1110, .d29_7_pos)]
  | 0b010010 => [(0b0101, .d2_2_pos), (0b0110, .d2_6_pos), (0b1001, .d2_1_pos), (0b1010, .d2_5_pos), (0b1011, .d2_0_pos), (0b1100, .d2_3_pos), (0b1101, .d2_4_pos), (0b1110, .d2_7_pos)]
  | 0b010011 => [(0b0001, .d18_7_pos), (0b0010, .d18_4_pos), (0b0011, .d18_3_pos), (0b0100, .d18_0_pos), (0b0101, .d18_2), (0b0110, .d18_6), (0b0111, .d18_7_neg), (0b1001, .d18_1), (0b1010, .d18_5), (0b1011, .d18_0_neg), (0b1100, .d18_3_neg), (0b1101, .d18_4_neg)]
  | 0b010100 => [(0b0101, .d31_2_pos), (0b0110, .d31_6_pos), (0b1001, .d31_1_pos), (0b1010, .d31_5_pos), (0b1011, .d31_0_pos), (0b1100, .d31_3_pos), (0b1101, .d31_4_pos), (0b1110, .d31_7_pos)]
  | 0b010101 => [(0b0001, .d10_7_pos), (0b0010, .d10_4_pos), (0b0011, .d10_3_pos), (0b0100, .d10_0_pos), (0b0101, .d10_2), (0b0110, .d10_6), (0b1001, .d10_1), (0b1010, .d10_5), (0b1011, .d10_0_neg), (0b1100, .d10_3_neg), (0b1101, .d10_4_neg), (0b1110, .d10_7_neg)]
  | 0b010110 => [(0b0001, .d26_7_pos), (0b0010, .d26_4_pos), (0b0011, .d26_3_pos), (0b0100, .d26_0_pos), (0b0101, .d26_2), (0b0110, .d26_6), (0b1001, .d26_1), (0b1010, .d26_5), (0b1011, .d26_0_neg), (0b1100, .d26_3_neg), (0b1101, .d26_4_neg), (0b1110, .d26_7_neg)]
  | 0b010111 => [(0b0001, .d15_7_neg), (0b0010, .d15_4_neg), (0b0011, .d15_3_neg), (0b0100, .d15_0_neg), (0b0101, .d15_2_neg), (0b0110, .d15_6_neg), (0b1001, .d15_1_neg), (0b1010, .d15_5_neg)]
  | 0b011000 => [(0b0101, .d0_2_pos), (0b0110, .d0_6_pos), (0b1001, .d0_1_pos), (0b1010, .d0_5_pos), (0b1011, .d0_0_pos), (0b1100, .d0_3_pos), (0b1101, .d0_4_pos), (0b1110, .d0_7_pos)]
  | 0b011001 => [(0b0001, .d6_7_pos), (0b0010, .d6_4_pos), (0b0011, .d6_3_pos), (0b0100, .d6_0_pos), (0b0101, .d6_2), (0b0110, .d6_6), (0b1001, .d6_1), (0b1010, .d6_5), (0b1011, .d6_0_neg), (0b1100, .d6_3_neg), (0b1101, .d6_4_neg), (0b1110, .d6_7_neg)]
  | 0b011010 => [(0b0001, .d22_7_pos), (0b0010, .d22_4_pos), (0b0011, .d22_3_pos), (0b0100, .d22_0_pos), (0b0101, .d22_2), (0b0110, .d22_6), (0b1001, .d22_1), (0b1010, .d22_5), (0b1011, .d22_0_neg), (0b1100, .d22_3_neg), (0b1101, .d22_4_neg), (0b1110, .d22_7_neg)]
  | 0b011011 => [(0b0001, .d16_7_neg), (0b0010, .d16_4_neg), (0b0011, .d16_3_neg), (0b0100, .d16_0_neg), (0b0101, .d16_2_neg), (0b0110, .d16_6_neg), (0b1001, .d16_1_neg), (0b1010, .d16_5_neg)]
  | 0b011100 => [(0b0010, .d14_4_pos), (0b0011, .d14_3_pos), (0b0100, .d14_0_pos), (0b0101, .d14_2), (0b0110, .d14_6), (0b1000, .d14_7_pos), (0b1001, .d14_1), (0b1010, .d14_5), (0b1011, .d14_0_neg), (0b1100, .d14_3_neg), (0b1101, .d14_4_neg), (0b1110, .d14_7_neg)]
  | 0b011101 => [(0b0001, .d1_7_neg), (0b0010, .d1_4_neg), (0b0011, .d1_3_neg), (0b0100, .d1_0_neg), (0b0101, .d1_2_neg), (0b0110, .d1_6_neg), (0b1001, .d1_1_neg), (0b1010, .d1_5_neg)]
  | 0b011110 => [(0b0001, .d30_7_neg), (0b0010, .d30_4_neg), (0b0011, .d30_3_neg), (0b0100, .d30_0_neg), (0b0101, .d30_2_neg), (0b0110, .d30_6_neg), (0b1000, .k30_7_neg), (0b1001, .d30_1_neg), (0b1010, .d30_5_neg)]
  | 0b100001 => [(0b0101, .d30_2_pos), (0b0110, .d30_6_pos), (0b0111, .k30_7_pos), (0b1001, .d30_1_pos), (0b1010, .d30_5_pos), (0b1011, .d30_0_pos), (0b1100, .d30_3_pos), (0b1101, .d30_4_pos), (0b1110, .d30_7_pos)]
  | 0b100010 => [(0b0101, .d1_2_pos), (0b0110, .d1_6_pos), (0b1001, .d1_1_pos), (0b1010, .d1_5_pos), (0b1011, .d1_0_pos), (0b1100, .d1_3_pos), (0b1101, .d1_4_pos), (0b1110, .d1_7_pos)]
  | 0b100011 => [(0b0001, .d17_7_pos), (0b0010, .d17_4_pos), (0b0011, .d17_3_pos), (0b0100, .d17_0_pos), (0b0101, .d17_2), (0b0110, .d17_6), (0b0111, .d17_7_neg), (0b1001, .d17_1), (0b1010, .d17_5), (0b1011, .d17_0_neg), (0b1100, .d17_3_neg), (0b1101, .d17_4_neg)]
  | 0b100100 => [(0b0101, .d16_2_pos), (0b0110, .d16_6_pos), (0b1001, .d16_1_pos), (0b1010, .d16_5_pos), (0b1011, .d16_0_pos), (0b1100, .d16_3_pos), (0b1101, .d16_4_pos), (0b1110, .d16_7_pos)]
  | 0b100101 => [(0b0001, .d9_7_pos), (0b0010, .d9_4_pos), (0b0011, .d9_3_pos), (0b0100, .d9_0_pos), (0b0101, .d9_2), (0b0110, .d9_6), (0b1001, .d9_1), (0b1010, .d9_5), (0b1011, .d9_0_neg), (0b1100, .d9_3_neg), (0b1101, .d9_4_neg), (0b1110, .d9_7_neg)]
  | 0b100110 => [(0b0001, .d25_7_pos), (0b0010, .d25_4_pos), (0b0011, .d25_3_pos), (0b0100, .d25_0_pos), (0b0101, .d25_2), (0b0110, .d25_6), (0b1001, .d25_1), (0b1010, .d25_5), (0b1011, .d25_0_neg), (0b1100, .d25_3_neg), (0b1101, .d25_4_neg), (0b1110, .d25_7_neg)]
  | 0b100111 => [(0b0001, .d0_7_neg), (0b0010, .d0_4_neg), (0b0011, .d0_3_neg), (0b0100, .d0_0_neg), (0b0101, .d0_2_neg), (0b0110, .d0_6_neg), (0b1001, .d0_1_neg), (0b1010, .d0_5_neg)]
  | 0b101000 => [(0b0101, .d15_2_pos), (0b0110, .d15_6_pos), (0b1001, .d15_1_pos), (0b1010, .d15_5_pos), (0b1011, .d15_0_pos), (0b1100, .d15_3_pos), (0b1101, .d15_4_pos), (0b1110, .d15_7_pos)]
  | 0b101001 => [(0b0001, .d5_7_pos), (0b0010, .d5_4_pos), (0b0011, .d5_3_pos), (0b0100, .d5_0_pos), (0b0101, .d5_2), (0b0110, .d5_6), (0b1001, .d5_1), (0b1010, .d5_5), (0b1011, .d5_0_neg), (0b1100, .d5_3_neg), (0b1101, .d5_4_neg), (0b1110, .d5_7_neg)]
  | 0b101010 => [(0b0001, .d21_7_pos), (0b0010, .d21_4_pos), (0b0011, .d21_3_pos), (0b0100, .d21_0_pos), (0b0101, .d21_2), (0b0110, .d21_6), (0b1001, .d21_1), (0b1010, .d21_5), (0b1011, .d21_0_neg), (0b1100, .d21_3_neg), (0b1101, .d21_4_neg), (0b1110, .d21_7_neg)]
  | 0b101011 => [(0b0001, .d31_7_neg), (0b0010, .d31_4_neg), (0b0011, .d31_3_neg), (0b0100, .d31_0_neg), (0b0101, .d31_2_neg), (0b0110, .d31_6_neg), (0b1001, .d31_1_neg), (0b1010, .d31_5_neg)]
  | 0b101100 => [(0b0010, .d13_4_pos), (0b0011, .d13_3_pos), (0b0100, .d13_0_pos), (0b0101, .d13_2), (0b0110, .d13_6), (0b1000, .d13_7_pos), (0b1001, .d13_1), (0b1010, .d13_5), (0b1011, .d13_0_neg), (0b1100, .d13_3_neg), (0b1101, .d13_4_neg), (0b1110, .d13_7_neg)]
  | 0b101101 => [(0b0001, .d2_7_neg), (0b0010, .d2_4_neg), (0b0011, .d2_3_neg), (0b0100, .d2_0_neg), (0b0101, .d2_2_neg), (0b0110, .d2_6_neg), (0b1001, .d2_1_neg), (0b1010, .d2_5_neg)]
  | 0b101110 => [(0b0001, .d29_7_neg), (0b0010, .d29_4_neg), (0b0011, .d29_3_neg), (0b0100, .d29_0_neg), (0b0101, .d29_2_neg), (0b0110, .d29_6_neg), (0b1000, .k29_7_neg), (0b1001, .d29_1_neg), (0b1010, .d29_5_neg)]
  | 0b110000 => [(0b0101, .k28_5_pos), (0b0110, .k28_1_pos), (0b0111, .k28_7_pos), (0b1001, .k28_6_pos), (0b1010, .k28_2_pos), (0b1011, .k28_0_pos), (0b1100, .k28_3_pos), (0b1101, .k28_4_pos)]
  | 0b110001 => [(0b0001, .d3_7_pos), (0b0010, .d3_4_pos), (0b0011, .d3_3_pos), (0b0100, .d3_0_pos), (0b0101, .d3_2), (0b0110, .d3_6), (0b1001, .d3_1), (0b1010, .d3_5), (0b1011, .d3_0_neg), (0b1100, .d3_3_neg), (0b1101, .d3_4_neg), (0b1110, .d3_7_neg)]
  | 0b110010 => [(0b0001, .d19_7_pos), (0b0010, .d19_4_pos), (0b0011, .d19_3_pos), (0b0100, .d19_0_pos), (0b0101, .d19_2), (0b0110, .d19_6), (0b1001, .d19_1), (0b1010, .d19_5), (0b1011, .d19_0_neg), (0b1100, .d19_3_neg), (0b1101, .d19_4_neg), (0b1110, .d19_7_neg)]
  | 0b110011 => [(0b0001, .d24_7_neg), (0b0010, .d24_4_neg), (0b0011, .d24_3_neg), (0b0100, .d24_0_neg), (0b0101, .d24_2_neg), (0b0110, .d24_6_neg), (0b1001, .d24_1_neg), (0b1010, .d24_5_neg)]
  | 0b110100 => [(0b0010, .d11_4_pos), (0b0011, .d11_3_pos), (0b0100, .d11_0_pos), (0b0101, .d11_2), (0b0110, .d11_6), (0b1000, .d11_7_pos), (0b1001, .d11_1), (0b1010, .d11_5), (0b1011, .d11_0_neg), (0b1100, .d11_3_neg), (0b1101, .d11_4_neg), (0b1110, .d11_7_neg)]
  | 0b110101 => [(0b0001, .d4_7_neg), (0b0010, .d4_4_neg), (0b0011, .d4_3_neg), (0b0100, .d4_0_neg), (0b0101, .d4_2_neg), (0b0110, .d4_6_neg), (0b1001, .d4_1_neg), (0b1010, .d4_5_neg)]
  | 0b110110 => [(0b0001, .d27_7_neg), (0b0010, .d27_4_neg), (0b0011, .d27_3_neg), (0b0100, .d27_0_neg), (0b0101, .d27_2_neg), (0b0110, .d27_6_neg), (0b1000, .k27_7_neg), (0b1001, .d27_1_neg), (0b1010, .d27_5_neg)]
  | 0b111000 => [(0b0101, .d7_2_neg), (0b0110, .d7_6_neg), (0b1001, .d7_1_neg), (0b1010, .d7_5_neg), (0b1011, .d7_0_neg), (0b1100, .d7_3_neg), (0b1101, .d7_4_neg), (0b1110, .d7_7_neg)]
  | 0b111001 => [(0b0001, .d8_7_neg), (0b0010, .d8_4_neg), (0b0011, .d8_3_neg), (0b0100, .d8_0_neg), (0b0101, .d8_2_neg), (0b0110, .d8_6_neg), (0b1001, .d8_1_neg), (0b1010, .d8_5_neg)]
  | 0b111010 => [(0b0001, .d23_7_neg), (0b0010, .d23_4_neg), (0b0011, .d23_3_neg), (0b0100, .d23_0_neg), (0b0101, .d23_2_neg), (0b0110, .d23_6_neg), (0b1000, .k23_7_neg), (0b1001, .d23_1_neg), (0b1010, .d23_5_neg)]
  | _ => []

/-- The instruction of a codeword (R59): the row that matches, else the default row (R54). -/
def decode (w : Codeword) : Instr :=
  match (sixRows (w.extractLsb' 4 6)).find? (fun r => r.1 == w.extractLsb' 0 4) with
  | some r => r.2
  | none => .invalid w

/-- The codeword of ten bits in transmission order, the first bit at `WIN[9]` (R31). -/
def codewordOfBits (bits : List Bool) : Codeword :=
  bits.foldl (fun w b => (w <<< 1) ||| BitVec.setWidth 10 (BitVec.ofBool b)) 0

/-- Decode a sequence of bits in transmission order; anything but ten bits is refused by name (R56). -/
def decodeBits (bits : List Bool) : Except DecodeError Instr :=
  if bits.length = 10 then .ok (decode (codewordOfBits bits)) else .error .notTenBits

/-- The codeword of an instruction, from the `match` column of spec/opcode_table.json. -/
def encode : Instr → Codeword
  | .d0_0_pos => 0x18B
  | .d0_0_neg => 0x274
  | .d1_0_pos => 0x22B
  | .d1_0_neg => 0x1D4
  | .d2_0_pos => 0x12B
  | .d2_0_neg => 0x2D4
  | .d3_0_pos => 0x314
  | .d3_0_neg => 0x31B
  | .d4_0_pos => 0x0AB
  | .d4_0_neg => 0x354
  | .d5_0_pos => 0x294
  | .d5_0_neg => 0x29B
  | .d6_0_pos => 0x194
  | .d6_0_neg => 0x19B
  | .d7_0_pos => 0x074
  | .d7_0_neg => 0x38B
  | .d8_0_pos => 0x06B
  | .d8_0_neg => 0x394
  | .d9_0_pos => 0x254
  | .d9_0_neg => 0x25B
  | .d10_0_pos => 0x154
  | .d10_0_neg => 0x15B
  | .d11_0_pos => 0x344
  | .d11_0_neg => 0x34B
  | .d12_0_pos => 0x0D4
  | .d12_0_neg => 0x0DB
  | .d13_0_pos => 0x2C4
  | .d13_0_neg => 0x2CB
  | .d14_0_pos => 0x1C4
  | .d14_0_neg => 0x1CB
  | .d15_0_pos => 0x28B
  | .d15_0_neg => 0x174
  | .d16_0_pos => 0x24B
  | .d16_0_neg => 0x1B4
  | .d17_0_pos => 0x234
  | .d17_0_neg => 0x23B
  | .d18_0_pos => 0x134
  | .d18_0_neg => 0x13B
  | .d19_0_pos => 0x324
  | .d19_0_neg => 0x32B
  | .d20_0_pos => 0x0B4
  | .d20_0_neg => 0x0BB
  | .d21_0_pos => 0x2A4
  | .d21_0_neg => 0x2AB
  | .d22_0_pos => 0x1A4
  | .d22_0_neg => 0x1AB
  | .d23_0_pos => 0x05B
  | .d23_0_neg => 0x3A4
  | .d24_0_pos => 0x0CB
  | .d24_0_neg => 0x334
  | .d25_0_pos => 0x264
  | .d25_0_neg => 0x26B
  | .d26_0_pos => 0x164
  | .d26_0_neg => 0x16B
  | .d27_0_pos => 0x09B
  | .d27_0_neg => 0x364
  | .d28_0_pos => 0x0E4
  | .d28_0_neg => 0x0EB
  | .d29_0_pos => 0x11B
  | .d29_0_neg => 0x2E4
  | .d30_0_pos => 0x21B
  | .d30_0_neg => 0x1E4
  | .d31_0_pos => 0x14B
  | .d31_0_neg => 0x2B4
  | .d0_1_pos => 0x189
  | .d0_1_neg => 0x279
  | .d1_1_pos => 0x229
  | .d1_1_neg => 0x1D9
  | .d2_1_pos => 0x129
  | .d2_1_neg => 0x2D9
  | .d3_1 => 0x319
  | .d4_1_pos => 0x0A9
  | .d4_1_neg => 0x359
  | .d5_1 => 0x299
  | .d6_1 => 0x199
  | .d7_1_pos => 0x079
  | .d7_1_neg => 0x389
  | .d8_1_pos => 0x069
  | .d8_1_neg => 0x399
  | .d9_1 => 0x259
  | .d10_1 => 0x159
  | .d11_1 => 0x349
  | .d12_1 => 0x0D9
  | .d13_1 => 0x2C9
  | .d14_1 => 0x1C9
  | .d15_1_pos => 0x289
  | .d15_1_neg => 0x179
  | .d16_1_pos => 0x249
  | .d16_1_neg => 0x1B9
  | .d17_1 => 0x239
  | .d18_1 => 0x139
  | .d19_1 => 0x329
  | .d20_1 => 0x0B9
  | .d21_1 => 0x2A9
  | .d22_1 => 0x1A9
  | .d23_1_pos => 0x059
  | .d23_1_neg => 0x3A9
  | .d24_1_pos => 0x0C9
  | .d24_1_neg => 0x339
  | .d25_1 => 0x269
  | .d26_1 => 0x169
  | .d27_1_pos => 0x099
  | .d27_1_neg => 0x369
  | .d28_1 => 0x0E9
  | .d29_1_pos => 0x119
  | .d29_1_neg => 0x2E9
  | .d30_1_pos => 0x219
  | .d30_1_neg => 0x1E9
  | .d31_1_pos => 0x149
  | .d31_1_neg => 0x2B9
  | .d0_2_pos => 0x185
  | .d0_2_neg => 0x275
  | .d1_2_pos => 0x225
  | .d1_2_neg => 0x1D5
  | .d2_2_pos => 0x125
  | .d2_2_neg => 0x2D5
  | .d3_2 => 0x315
  | .d4_2_pos => 0x0A5
  | .d4_2_neg => 0x355
  | .d5_2 => 0x295
  | .d6_2 => 0x195
  | .d7_2_pos => 0x075
  | .d7_2_neg => 0x385
  | .d8_2_pos => 0x065
  | .d8_2_neg => 0x395
  | .d9_2 => 0x255
  | .d10_2 => 0x155
  | .d11_2 => 0x345
  | .d12_2 => 0x0D5
  | .d13_2 => 0x2C5
  | .d14_2 => 0x1C5
  | .d15_2_pos => 0x285
  | .d15_2_neg => 0x175
  | .d16_2_pos => 0x245
  | .d16_2_neg => 0x1B5
  | .d17_2 => 0x235
  | .d18_2 => 0x135
  | .d19_2 => 0x325
  | .d20_2 => 0x0B5
  | .d21_2 => 0x2A5
  | .d22_2 => 0x1A5
  | .d23_2_pos => 0x055
  | .d23_2_neg => 0x3A5
  | .d24_2_pos => 0x0C5
  | .d24_2_neg => 0x335
  | .d25_2 => 0x265
  | .d26_2 => 0x165
  | .d27_2_pos => 0x095
  | .d27_2_neg => 0x365
  | .d28_2 => 0x0E5
  | .d29_2_pos => 0x115
  | .d29_2_neg => 0x2E5
  | .d30_2_pos => 0x215
  | .d30_2_neg => 0x1E5
  | .d31_2_pos => 0x145
  | .d31_2_neg => 0x2B5
  | .d0_3_pos => 0x18C
  | .d0_3_neg => 0x273
  | .d1_3_pos => 0x22C
  | .d1_3_neg => 0x1D3
  | .d2_3_pos => 0x12C
  | .d2_3_neg => 0x2D3
  | .d3_3_pos => 0x313
  | .d3_3_neg => 0x31C
  | .d4_3_pos => 0x0AC
  | .d4_3_neg => 0x353
  | .d5_3_pos => 0x293
  | .d5_3_neg => 0x29C
  | .d6_3_pos => 0x193
  | .d6_3_neg => 0x19C
  | .d7_3_pos => 0x073
  | .d7_3_neg => 0x38C
  | .d8_3_pos => 0x06C
  | .d8_3_neg => 0x393
  | .d9_3_pos => 0x253
  | .d9_3_neg => 0x25C
  | .d10_3_pos => 0x153
  | .d10_3_neg => 0x15C
  | .d11_3_pos => 0x343
  | .d11_3_neg => 0x34C
  | .d12_3_pos => 0x0D3
  | .d12_3_neg => 0x0DC
  | .d13_3_pos => 0x2C3
  | .d13_3_neg => 0x2CC
  | .d14_3_pos => 0x1C3
  | .d14_3_neg => 0x1CC
  | .d15_3_pos => 0x28C
  | .d15_3_neg => 0x173
  | .d16_3_pos => 0x24C
  | .d16_3_neg => 0x1B3
  | .d17_3_pos => 0x233
  | .d17_3_neg => 0x23C
  | .d18_3_pos => 0x133
  | .d18_3_neg => 0x13C
  | .d19_3_pos => 0x323
  | .d19_3_neg => 0x32C
  | .d20_3_pos => 0x0B3
  | .d20_3_neg => 0x0BC
  | .d21_3_pos => 0x2A3
  | .d21_3_neg => 0x2AC
  | .d22_3_pos => 0x1A3
  | .d22_3_neg => 0x1AC
  | .d23_3_pos => 0x05C
  | .d23_3_neg => 0x3A3
  | .d24_3_pos => 0x0CC
  | .d24_3_neg => 0x333
  | .d25_3_pos => 0x263
  | .d25_3_neg => 0x26C
  | .d26_3_pos => 0x163
  | .d26_3_neg => 0x16C
  | .d27_3_pos => 0x09C
  | .d27_3_neg => 0x363
  | .d28_3_pos => 0x0E3
  | .d28_3_neg => 0x0EC
  | .d29_3_pos => 0x11C
  | .d29_3_neg => 0x2E3
  | .d30_3_pos => 0x21C
  | .d30_3_neg => 0x1E3
  | .d31_3_pos => 0x14C
  | .d31_3_neg => 0x2B3
  | .d0_4_pos => 0x18D
  | .d0_4_neg => 0x272
  | .d1_4_pos => 0x22D
  | .d1_4_neg => 0x1D2
  | .d2_4_pos => 0x12D
  | .d2_4_neg => 0x2D2
  | .d3_4_pos => 0x312
  | .d3_4_neg => 0x31D
  | .d4_4_pos => 0x0AD
  | .d4_4_neg => 0x352
  | .d5_4_pos => 0x292
  | .d5_4_neg => 0x29D
  | .d6_4_pos => 0x192
  | .d6_4_neg => 0x19D
  | .d7_4_pos => 0x072
  | .d7_4_neg => 0x38D
  | .d8_4_pos => 0x06D
  | .d8_4_neg => 0x392
  | .d9_4_pos => 0x252
  | .d9_4_neg => 0x25D
  | .d10_4_pos => 0x152
  | .d10_4_neg => 0x15D
  | .d11_4_pos => 0x342
  | .d11_4_neg => 0x34D
  | .d12_4_pos => 0x0D2
  | .d12_4_neg => 0x0DD
  | .d13_4_pos => 0x2C2
  | .d13_4_neg => 0x2CD
  | .d14_4_pos => 0x1C2
  | .d14_4_neg => 0x1CD
  | .d15_4_pos => 0x28D
  | .d15_4_neg => 0x172
  | .d16_4_pos => 0x24D
  | .d16_4_neg => 0x1B2
  | .d17_4_pos => 0x232
  | .d17_4_neg => 0x23D
  | .d18_4_pos => 0x132
  | .d18_4_neg => 0x13D
  | .d19_4_pos => 0x322
  | .d19_4_neg => 0x32D
  | .d20_4_pos => 0x0B2
  | .d20_4_neg => 0x0BD
  | .d21_4_pos => 0x2A2
  | .d21_4_neg => 0x2AD
  | .d22_4_pos => 0x1A2
  | .d22_4_neg => 0x1AD
  | .d23_4_pos => 0x05D
  | .d23_4_neg => 0x3A2
  | .d24_4_pos => 0x0CD
  | .d24_4_neg => 0x332
  | .d25_4_pos => 0x262
  | .d25_4_neg => 0x26D
  | .d26_4_pos => 0x162
  | .d26_4_neg => 0x16D
  | .d27_4_pos => 0x09D
  | .d27_4_neg => 0x362
  | .d28_4_pos => 0x0E2
  | .d28_4_neg => 0x0ED
  | .d29_4_pos => 0x11D
  | .d29_4_neg => 0x2E2
  | .d30_4_pos => 0x21D
  | .d30_4_neg => 0x1E2
  | .d31_4_pos => 0x14D
  | .d31_4_neg => 0x2B2
  | .d0_5_pos => 0x18A
  | .d0_5_neg => 0x27A
  | .d1_5_pos => 0x22A
  | .d1_5_neg => 0x1DA
  | .d2_5_pos => 0x12A
  | .d2_5_neg => 0x2DA
  | .d3_5 => 0x31A
  | .d4_5_pos => 0x0AA
  | .d4_5_neg => 0x35A
  | .d5_5 => 0x29A
  | .d6_5 => 0x19A
  | .d7_5_pos => 0x07A
  | .d7_5_neg => 0x38A
  | .d8_5_pos => 0x06A
  | .d8_5_neg => 0x39A
  | .d9_5 => 0x25A
  | .d10_5 => 0x15A
  | .d11_5 => 0x34A
  | .d12_5 => 0x0DA
  | .d13_5 => 0x2CA
  | .d14_5 => 0x1CA
  | .d15_5_pos => 0x28A
  | .d15_5_neg => 0x17A
  | .d16_5_pos => 0x24A
  | .d16_5_neg => 0x1BA
  | .d17_5 => 0x23A
  | .d18_5 => 0x13A
  | .d19_5 => 0x32A
  | .d20_5 => 0x0BA
  | .d21_5 => 0x2AA
  | .d22_5 => 0x1AA
  | .d23_5_pos => 0x05A
  | .d23_5_neg => 0x3AA
  | .d24_5_pos => 0x0CA
  | .d24_5_neg => 0x33A
  | .d25_5 => 0x26A
  | .d26_5 => 0x16A
  | .d27_5_pos => 0x09A
  | .d27_5_neg => 0x36A
  | .d28_5 => 0x0EA
  | .d29_5_pos => 0x11A
  | .d29_5_neg => 0x2EA
  | .d30_5_pos => 0x21A
  | .d30_5_neg => 0x1EA
  | .d31_5_pos => 0x14A
  | .d31_5_neg => 0x2BA
  | .d0_6_pos => 0x186
  | .d0_6_neg => 0x276
  | .d1_6_pos => 0x226
  | .d1_6_neg => 0x1D6
  | .d2_6_pos => 0x126
  | .d2_6_neg => 0x2D6
  | .d3_6 => 0x316
  | .d4_6_pos => 0x0A6
  | .d4_6_neg => 0x356
  | .d5_6 => 0x296
  | .d6_6 => 0x196
  | .d7_6_pos => 0x076
  | .d7_6_neg => 0x386
  | .d8_6_pos => 0x066
  | .d8_6_neg => 0x396
  | .d9_6 => 0x256
  | .d10_6 => 0x156
  | .d11_6 => 0x346
  | .d12_6 => 0x0D6
  | .d13_6 => 0x2C6
  | .d14_6 => 0x1C6
  | .d15_6_pos => 0x286
  | .d15_6_neg => 0x176
  | .d16_6_pos => 0x246
  | .d16_6_neg => 0x1B6
  | .d17_6 => 0x236
  | .d18_6 => 0x136
  | .d19_6 => 0x326
  | .d20_6 => 0x0B6
  | .d21_6 => 0x2A6
  | .d22_6 => 0x1A6
  | .d23_6_pos => 0x056
  | .d23_6_neg => 0x3A6
  | .d24_6_pos => 0x0C6
  | .d24_6_neg => 0x336
  | .d25_6 => 0x266
  | .d26_6 => 0x166
  | .d27_6_pos => 0x096
  | .d27_6_neg => 0x366
  | .d28_6 => 0x0E6
  | .d29_6_pos => 0x116
  | .d29_6_neg => 0x2E6
  | .d30_6_pos => 0x216
  | .d30_6_neg => 0x1E6
  | .d31_6_pos => 0x146
  | .d31_6_neg => 0x2B6
  | .d0_7_pos => 0x18E
  | .d0_7_neg => 0x271
  | .d1_7_pos => 0x22E
  | .d1_7_neg => 0x1D1
  | .d2_7_pos => 0x12E
  | .d2_7_neg => 0x2D1
  | .d3_7_pos => 0x311
  | .d3_7_neg => 0x31E
  | .d4_7_pos => 0x0AE
  | .d4_7_neg => 0x351
  | .d5_7_pos => 0x291
  | .d5_7_neg => 0x29E
  | .d6_7_pos => 0x191
  | .d6_7_neg => 0x19E
  | .d7_7_pos => 0x071
  | .d7_7_neg => 0x38E
  | .d8_7_pos => 0x06E
  | .d8_7_neg => 0x391
  | .d9_7_pos => 0x251
  | .d9_7_neg => 0x25E
  | .d10_7_pos => 0x151
  | .d10_7_neg => 0x15E
  | .d11_7_pos => 0x348
  | .d11_7_neg => 0x34E
  | .d12_7_pos => 0x0D1
  | .d12_7_neg => 0x0DE
  | .d13_7_pos => 0x2C8
  | .d13_7_neg => 0x2CE
  | .d14_7_pos => 0x1C8
  | .d14_7_neg => 0x1CE
  | .d15_7_pos => 0x28E
  | .d15_7_neg => 0x171
  | .d16_7_pos => 0x24E
  | .d16_7_neg => 0x1B1
  | .d17_7_pos => 0x231
  | .d17_7_neg => 0x237
  | .d18_7_pos => 0x131
  | .d18_7_neg => 0x137
  | .d19_7_pos => 0x321
  | .d19_7_neg => 0x32E
  | .d20_7_pos => 0x0B1
  | .d20_7_neg => 0x0B7
  | .d21_7_pos => 0x2A1
  | .d21_7_neg => 0x2AE
  | .d22_7_pos => 0x1A1
  | .d22_7_neg => 0x1AE
  | .d23_7_pos => 0x05E
  | .d23_7_neg => 0x3A1
  | .d24_7_pos => 0x0CE
  | .d24_7_neg => 0x331
  | .d25_7_pos => 0x261
  | .d25_7_neg => 0x26E
  | .d26_7_pos => 0x161
  | .d26_7_neg => 0x16E
  | .d27_7_pos => 0x09E
  | .d27_7_neg => 0x361
  | .d28_7_pos => 0x0E1
  | .d28_7_neg => 0x0EE
  | .d29_7_pos => 0x11E
  | .d29_7_neg => 0x2E1
  | .d30_7_pos => 0x21E
  | .d30_7_neg => 0x1E1
  | .d31_7_pos => 0x14E
  | .d31_7_neg => 0x2B1
  | .k28_0_pos => 0x30B
  | .k28_0_neg => 0x0F4
  | .k28_1_pos => 0x306
  | .k28_1_neg => 0x0F9
  | .k28_2_pos => 0x30A
  | .k28_2_neg => 0x0F5
  | .k28_3_pos => 0x30C
  | .k28_3_neg => 0x0F3
  | .k28_4_pos => 0x30D
  | .k28_4_neg => 0x0F2
  | .k28_5_pos => 0x305
  | .k28_5_neg => 0x0FA
  | .k28_6_pos => 0x309
  | .k28_6_neg => 0x0F6
  | .k23_7_pos => 0x057
  | .k23_7_neg => 0x3A8
  | .k27_7_pos => 0x097
  | .k27_7_neg => 0x368
  | .k28_7_pos => 0x307
  | .k28_7_neg => 0x0F8
  | .k29_7_pos => 0x117
  | .k29_7_neg => 0x2E8
  | .k30_7_pos => 0x217
  | .k30_7_neg => 0x1E8
  | .invalid w => w

/-- A codeword's ten bits in transmission order (R31, R45). -/
def bitsOfCodeword (w : Codeword) : List Bool := (List.range 10).map fun k => w.getLsbD (9 - k)

/-- An instruction's ten bits in transmission order. -/
def encodeBits (i : Instr) : List Bool := bitsOfCodeword (encode i)

/-- The instruction the decoder reads from a table word of `nbits` bits, numbered as
spec/opcode_table.json numbers them: bits 9..0 are the codeword, sent from bit 9 down. A codeword is
the whole instruction, so a word with a bit set above bit 9 is none (R56). -/
def decodeTableWord (nbits w : Nat) : Option Instr :=
  let v := w % 2 ^ nbits
  if v < 2 ^ 10 then (decodeBits (bitsOfCodeword (BitVec.ofNat 10 v))).toOption else none

end Sys2Proof
end

