-- ==== Sys2Proof/Machine/State.lean ====
section
/-! DEFINITION. The machine's state (10_state.md), the reasons a step can stop, the state at model
creation (70_reset_and_hazards.md R151) and the state after reset (R150). -/

namespace Sys2Proof.Machine

/-- The spec's model faults with what each records (60_exceptions.md R130). They are what the
register `FAULT` holds. -/
inductive ModelFault where
  /-- F1, raised by START on an illegal configuration (R121). -/
  | configIllegal (bitRate : BitVec 32) (sampleRate : BitVec 64)
  /-- F2, raised by `Chan.advance` (R62) and by the span (R86): a sample index would pass 2^64 − 1. -/
  | cursorOverflow (base : SampleIdx) (addend : Nat)
  /-- F3, raised by the table check at construction (R96). -/
  | tableInconsistent (w : Codeword)
  /-- F4, raised by `Chan.toNextTransition` with no later transition (R64). -/
  | channelNoTransition (cur : SampleIdx)
deriving DecidableEq, Repr

/-- The symbol record (R23). `spanStart` and `spanEnd` are its fields `start` and `end`. -/
structure SymbolRecord where
  value : Value
  isK : Bool
  codeword : Codeword
  dclass : DisparityClass
  valid : Bool
  kind : SymbolKind
  violation : Violation
  rdAtDecode : Disparity
  spanStart : SampleIdx
  spanEnd : SampleIdx
deriving DecidableEq, Repr

/-- The waveform `(L0, T)` of a run (R60). -/
structure Waveform where
  level0 : Bool
  transitions : List SampleIdx
deriving DecidableEq, Repr

/-- What the host does at a step boundary (R120, R127, R152; log entry 4). -/
inductive HostMove where
  /-- A write of `CFG_BIT_RATE` (R10). -/
  | writeBitRate (v : BitVec 32)
  /-- A write of `CFG_SAMPLE_RATE` (R11). -/
  | writeSampleRate (v : BitVec 64)
  /-- A write of `CFG_IDLE_DROP` (R12). -/
  | writeIdleDrop (v : Bool)
  /-- A write of `CFG_CHANNEL` (R13). -/
  | writeChannel (id : Nat)
  /-- Binding a capture's waveform to the channel port (R152 item 3). -/
  | bindWaveform (c : Waveform)
  /-- START (R121). -/
  | start
  /-- STOP (R125). -/
  | stop
  /-- No move at this boundary: the core takes its step. -/
  | pass
deriving DecidableEq, Repr

/-- The configuration registers (R10 to R13). -/
structure CfgRegs where
  bitRate : BitVec 32
  sampleRate : BitVec 64
  idleDrop : Bool
  channel : Nat
deriving DecidableEq, Repr

/-- The derived constants (R14), each a 64-bit register. Their formulas pass 64 bits in one case alone,
`STC` at bit rate 1 and a high sample rate, where the laws of R67 need the number whole. The two bits
`stcOver` and `icoOver` are the model's own and stand beside the registers: DESIGN CHOICE, log entry 7. -/
structure Timing where
  /-- `SPB`. -/
  spb : BitVec 64
  /-- `STC`. -/
  stc : BitVec 64
  /-- The model's own: the number `STC` is 2^64 more than the register holds. -/
  stcOver : Bool
  /-- `OFS`. -/
  ofs : BitVec 64
  /-- `HALF`. -/
  half : BitVec 64
  /-- `ICO`. -/
  ico : BitVec 64
  /-- The model's own: the number `ICO` is 2^64 more than the register holds. -/
  icoOver : Bool
deriving DecidableEq, Repr

/-- The whole state of the core: everything 10_state.md names but the constant `ROM`, which is
`Sys2Proof.Machine.rom` (R27, R40), and with it the arguments of the model and the host's moves. -/
structure State where
  /-- `CFG_BIT_RATE`, `CFG_SAMPLE_RATE`, `CFG_IDLE_DROP`, `CFG_CHANNEL` (R10 to R13). -/
  cfg : CfgRegs
  /-- `SPB`, `STC`, `OFS`, `HALF`, `ICO` (R14). -/
  tim : Timing
  /-- `PHASE` (R15). -/
  phase : Phase
  /-- `CUR`, the channel cursor (R16). -/
  cur : SampleIdx
  /-- `WIN`, the sliding window (R17). -/
  win : Codeword
  /-- `WLEN`, how many bits the window holds (R17). -/
  wlen : Nat
  /-- `IDXQ`, the bit centres of the window, newest first (R18). -/
  idxq : List SampleIdx
  /-- `SYNC` (R19). -/
  sync : SyncState
  /-- `RD`, the running disparity (R20). -/
  rd : Disparity
  /-- `FIRST`: no decode cycle has run in this run (R21). -/
  first : Bool
  /-- `PENDING`, the K28.5 held back by idle suppression (R22). -/
  pending : Option SymbolRecord
  /-- `OUT`, the output stream in emission order (R25). -/
  out : List SymbolRecord
  /-- `FAULT` (R26). -/
  fault : Option ModelFault
  /-- The parameters of R5 that are no register. -/
  params : Params
  /-- The waveform bound to the channel port (R60). -/
  chan : Waveform
  /-- The host moves still to come, one to a step boundary (the model's own, log entry 4). -/
  host : List HostMove
deriving DecidableEq, Repr

/-- Why the machine stops. -/
inductive Fault where
  /-- Raised by `step` on a state whose `FAULT` is set: after a model fault no step is enabled (R141).
  Safe: the spec's machine takes no step there either. -/
  | modelFault (f : ModelFault)
  /-- Raised by a decode cycle on a state whose window or index queue does not hold ten entries, where
  R123 does not call one (log entry 11). Safe: no step of a run reaches it. -/
  | windowNotFull
deriving DecidableEq, Repr

/-- Why an instruction has no meaning. -/
inductive Refusal where
  /-- Raised by `exec` for a row whose meaning is not written yet. Safe: no arm raises it now, and the
  spec has no refusal outcome (R126). -/
  | notModelled (mnemonic : String)
deriving DecidableEq, Repr

/-- The outcome of a step or of a codeword's meaning (R126). -/
abbrev Result := Host.Outcome State Fault Refusal

/-- What a step does before any codeword runs: it is over, or the window of `s` goes to the decoder,
`base` being the state a fault of the rest of the step falls back to (R126). -/
inductive Fetched where
  | settled (o : Result)
  | window (base s : State)

/-- The state at model creation, before any START (R151). Only `phase` and `fault` have a value the
spec gives; the others are the model's (log entry 2). -/
def State.created : State :=
  { cfg := { bitRate := 0, sampleRate := 0, idleDrop := false, channel := 0 }
    tim := { spb := 0, stc := 0, stcOver := false, ofs := 0, half := 0, ico := 0, icoOver := false }
    phase := .idle
    cur := 0
    win := 0
    wlen := 0
    idxq := []
    sync := .unsynchronized
    rd := .negative
    first := true
    pending := none
    out := []
    fault := none
    params := Params.default
    chan := { level0 := false, transitions := [] }
    host := [] }

/-- The machine right after reset: the values START writes (R150), with the configuration of log
entry 1, the default parameters of R5, no waveform bound and no host move to come. -/
def State.reset : State :=
  { cfg := { bitRate := 1, sampleRate := 4, idleDrop := false, channel := 0 }
    tim := { spb := 4, stc := 6, stcOver := false, ofs := 2, half := 2, ico := 2, icoOver := false }
    phase := .acquire
    cur := 0
    win := 0
    wlen := 0
    idxq := []
    sync := .unsynchronized
    rd := .negative
    first := true
    pending := none
    out := []
    fault := none
    params := Params.default
    chan := { level0 := false, transitions := [] }
    host := [] }

end Sys2Proof.Machine
end

