-- ==== Sys2Proof/Machine/Flags.lean ====
section
/-! DEFINITION. The flag computations: the running-disparity update and its violation
(43_running_disparity_validator.md R100 to R105), the classification and the idle predicates
(44_symbol_classifier.md R110, R112) and the comma patterns (30_encoding.md R53). -/

namespace Sys2Proof.Machine

/-- `ones(w)` (R100). -/
def ones (w : Codeword) : Nat := popcount w

/-- `RD` after `UpdateRD(w)` (R101): `rd` is `RD` before it. -/
def rdAfter (w : Codeword) (rd : Disparity) : Disparity :=
  if ones w > 5 ∧ rd = .negative then .positive
  else if ones w < 5 ∧ rd = .positive then .negative
  else rd

/-- The violation `UpdateRD(w)` reports (R101, R102), the cases in the document's order: none where
the count moves `RD`, none while `first` is set. -/
def rdViolation (w : Codeword) (rd : Disparity) (first : Bool) : Violation :=
  if ones w > 5 ∧ rd = .negative then .none
  else if ones w < 5 ∧ rd = .positive then .none
  else if first = false ∧ ones w > 5 ∧ rd = .positive then .onesWhilePositive
  else if first = false ∧ ones w < 5 ∧ rd = .negative then .zerosWhileNegative
  else .none

/-- `Classify(valid, is_k)` (R110). -/
def classify (valid isK : Bool) : SymbolKind :=
  if valid = false then .error else if isK then .control else .data

/-- `IsComma(s)` (R112): K28.5, either form. -/
def isComma (r : SymbolRecord) : Bool := r.valid && r.isK && r.value == 0xBC

/-- `IsIdleData(s)` (R112): D10.2 or D19.5. -/
def isIdleData (r : SymbolRecord) : Bool :=
  r.valid && !r.isK && (r.value == 0x4A || r.value == 0xB3)

/-- `COMMA_RD_MINUS` (R5, R53). -/
def commaMinus : Codeword := 0x0FA

/-- `COMMA_RD_PLUS` (R5, R53). -/
def commaPlus : Codeword := 0x305

/-- The window is one of the two lock patterns (R53, R83). -/
def isCommaPattern (w : Codeword) : Bool := w == commaMinus || w == commaPlus

end Sys2Proof.Machine
end

