-- ==== Sys2Proof/Machine/Operands.lean ====
section
/-! DEFINITION. The operand forms of the decode: the fields of a codeword and of a decoded value
(30_encoding.md R45, R46; 20_memory.md R32), the bit centres a window is read with
(10_state.md R18), the symbol span (41_symbol_synchronizer.md R86) and the numeric codes of the
enumerations (00_scope.md R8). -/

namespace Sys2Proof.Machine

/-- The 6b sub-block `abcdei` (R45). -/
def sixField (w : Codeword) : BitVec 6 := w.extractLsb' 4 6

/-- The 4b sub-block `fghj` (R45). -/
def fourField (w : Codeword) : BitVec 4 := w.extractLsb' 0 4

/-- `value = (y << 5) | x` (R32, R46). -/
def symbolValue (x : BitVec 5) (y : BitVec 3) : Value :=
  (y.setWidth 8 <<< 5) ||| x.setWidth 8

/-- `x = value[4:0]` (R46). -/
def valueX (v : Value) : BitVec 5 := v.extractLsb' 0 5

/-- `y = value[7:5]` (R46). -/
def valueY (v : Value) : BitVec 3 := v.extractLsb' 5 3

/-- `value9 = is_k ++ value` (R23). -/
def value9 (isK : Bool) (v : Value) : Value9 := BitVec.ofBool isK ++ v

/-- `IDXQ[k]` (R18), for a `k` below its length. -/
def centre (s : State) (k : Nat) : SampleIdx := s.idxq.getD k 0

/-- `start <- IDXQ[9] − HALF` (R86), from the oldest bit centre. Where `HALF` is the greater the spec
states no result: a free value (log entry 8). -/
def spanFirst (oldest half : SampleIdx) : SampleIdx :=
  if half ≤ oldest then oldest - half else Config.freeSpanStart oldest half

/-- `end <- IDXQ[0] + HALF` (R86), from the newest bit centre, where `spanFits`. -/
def spanLast (newest half : SampleIdx) : SampleIdx := newest + half

/-- The end of the span is a 64-bit index (R86). -/
def spanFits (newest half : SampleIdx) : Bool := newest.toNat + half.toNat < indexLimit

/-- The number `ICO` (R14): the register, and 2^64 more where `icoOver` says so (log entry 7). -/
def icoNumber (t : Timing) : Nat := t.ico.toNat + if t.icoOver then indexLimit else 0

/-- The code of a running disparity (R8). -/
def disparityCode : Disparity → BitVec 1
  | .negative => 0
  | .positive => 1

/-- The code of a disparity class (R8). -/
def classCode : DisparityClass → BitVec 2
  | .negative => 0
  | .positive => 1
  | .neutral => 2

/-- The code of a symbol kind (R8). -/
def kindCode : SymbolKind → BitVec 2
  | .data => 0
  | .control => 1
  | .error => 2

/-- The code of a violation (R8, R130). -/
def violationCode : Violation → BitVec 2
  | .none => 0
  | .onesWhilePositive => 1
  | .zerosWhileNegative => 2

/-- The code of a synchronization state (R8). -/
def syncCode : SyncState → BitVec 1
  | .unsynchronized => 0
  | .synchronized => 1

/-- The code of a phase (R8). -/
def phaseCode : Phase → BitVec 2
  | .idle => 0
  | .acquire => 1
  | .run => 2
  | .done => 3

/-- The code of a model fault (R130). -/
def faultCode : ModelFault → Nat
  | .configIllegal _ _ => 1
  | .cursorOverflow _ _ => 2
  | .tableInconsistent _ => 3
  | .channelNoTransition _ => 4

end Sys2Proof.Machine
end

