-- ==== Sys2Proof/Machine/Ops.lean ====
section
/-! DEFINITION. The named operations over the state: raising a model fault, the window, the output
stream with idle suppression, the end of a run, and the decode cycle that every codeword's meaning
is. -/

namespace Sys2Proof.Machine

/-- The state with a model fault recorded and nothing else changed (R126, R141). -/
def setFault (f : ModelFault) (s : State) : State := { s with fault := some f }

/-- `raise f` (R7, R130, R141): taking a fault, in a step that began at `s`. There is no handler, no
saved context and no return from it (R131, R134), so there is no operation beside it. -/
def raise (f : ModelFault) (s : State) : Result := .next (setFault f s)

/-- The outcome of a whole step that began at `base`, from the outcome of its last part: a fault there
leaves every element but `FAULT` as it was before the step (R126, R131). -/
def commit (base : State) (o : Result) : Result :=
  match o with
  | .next t =>
    match t.fault with
    | some f => raise f base
    | none => .next t
  | .fault f => .fault f
  | .refused r => .refused r

/-- `ShiftIn(b)` (R80). -/
def shiftIn (b : Bool) (s : State) : State :=
  { s with win := (s.win <<< 1) ||| (BitVec.ofBool b).setWidth 10, wlen := min (s.wlen + 1) 10 }

/-- `QueueIn(idx)` (R81). -/
def queueIn (idx : SampleIdx) (s : State) : State := { s with idxq := (idx :: s.idxq).take 10 }

/-- `ClearWindow()` (R85). -/
def clearWindow (s : State) : State := { s with win := 0, wlen := 0, idxq := [] }

/-- `Emit(s)` (R116). -/
def emit (r : SymbolRecord) (s : State) : State := { s with out := s.out ++ [r] }

/-- The last two lines of `Offer` (R114): hold a K28.5 back, emit anything else. -/
def holdOrEmit (r : SymbolRecord) (s : State) : State :=
  if isComma r then { s with pending := some r } else emit r s

/-- `Offer(s)` (R114). -/
def offer (r : SymbolRecord) (s : State) : State :=
  match s.pending with
  | none => holdOrEmit r s
  | some p =>
    if isIdleData r then { s with pending := none }
    else holdOrEmit r (emit p { s with pending := none })

/-- The last step of a decode cycle (R123): emit at once with suppression off (R113), offer with it
on (R114). -/
def deliver (r : SymbolRecord) (s : State) : State :=
  if s.cfg.idleDrop then offer r s else emit r s

/-- `FlushPending()` (R115). -/
def flushPending (s : State) : State :=
  match s.pending with
  | none => s
  | some p =>
    { (if s.params.flushPendingAtEnd then emit p s else s) with pending := none }

/-- END (R124). -/
def endRun (s : State) : State := { flushPending s with phase := .done }

/-- The symbol record of a decode cycle on the codeword `w` with table entry `e` (R111, R123). -/
def cycleRecord (w : Codeword) (e : RomEntry) (s : State) : SymbolRecord :=
  let l := lookupFields e
  { value := l.value
    isK := l.isK
    codeword := w
    dclass := l.dclass
    valid := l.valid
    kind := classify l.valid l.isK
    violation := rdViolation w s.rd s.first
    rdAtDecode := s.rd
    spanStart := spanFirst (centre s 9) s.tim.half
    spanEnd := spanLast (centre s 0) s.tim.half }

/-- `RD` and `FIRST` after a decode cycle on `w` (R101, R102), the window cleared (R85). -/
def afterWindow (w : Codeword) (s : State) : State :=
  clearWindow { s with rd := rdAfter w s.rd, first := false }

/-- The window and its index queue hold ten entries: where R123 calls a decode cycle. -/
def windowFull (s : State) : Bool := s.wlen == 10 && s.idxq.length == 10

/-- `DecodeCycle()` (R123) on the codeword `w` of the window, with table entry `e`. The span's end is
checked as R86 says. -/
def decodeCycle (w : Codeword) (e : RomEntry) (s : State) : Result :=
  if windowFull s then
    if spanFits (centre s 0) s.tim.half then
      .next (deliver (cycleRecord w e s) (afterWindow w s))
    else raise (.cursorOverflow (centre s 0) s.tim.half.toNat) s
  else .fault .windowNotFull

/-- The decode cycle on a data codeword `D.x.y` standing in the column `c` (R91). -/
def dataCycle (w : Codeword) (x : BitVec 5) (y : BitVec 3) (c : DisparityClass) (s : State) : Result :=
  decodeCycle w (.hit (symbolValue x y) false c) s

/-- The decode cycle on a control codeword `K.x.y` standing in the column `c` (R92). -/
def controlCycle (w : Codeword) (x : BitVec 5) (y : BitVec 3) (c : DisparityClass) (s : State) :
    Result :=
  decodeCycle w (.hit (symbolValue x y) true c) s

end Sys2Proof.Machine
end

