-- ==== Sys2Proof/Machine/Control.lean ====
section
/-! DEFINITION. The meanings of the 24 control codewords: each is the decode cycle of
45_decode_run.md R123 on that codeword, whose table entry is the row's control hit
(42_codeword_lookup_table.md R92). -/

namespace Sys2Proof.Machine

/-- K28.0, RD+ form 0x30B. -/
def execK28_0_pos (s : State) : Result := controlCycle 0x30B 28 0 .positive s

/-- K28.0, RD− form 0x0F4. -/
def execK28_0_neg (s : State) : Result := controlCycle 0x0F4 28 0 .negative s

/-- K28.1, RD+ form 0x306. -/
def execK28_1_pos (s : State) : Result := controlCycle 0x306 28 1 .positive s

/-- K28.1, RD− form 0x0F9. -/
def execK28_1_neg (s : State) : Result := controlCycle 0x0F9 28 1 .negative s

/-- K28.2, RD+ form 0x30A. -/
def execK28_2_pos (s : State) : Result := controlCycle 0x30A 28 2 .positive s

/-- K28.2, RD− form 0x0F5. -/
def execK28_2_neg (s : State) : Result := controlCycle 0x0F5 28 2 .negative s

/-- K28.3, RD+ form 0x30C. -/
def execK28_3_pos (s : State) : Result := controlCycle 0x30C 28 3 .positive s

/-- K28.3, RD− form 0x0F3. -/
def execK28_3_neg (s : State) : Result := controlCycle 0x0F3 28 3 .negative s

/-- K28.4, RD+ form 0x30D. -/
def execK28_4_pos (s : State) : Result := controlCycle 0x30D 28 4 .positive s

/-- K28.4, RD− form 0x0F2. -/
def execK28_4_neg (s : State) : Result := controlCycle 0x0F2 28 4 .negative s

/-- K28.5, RD+ form 0x305. -/
def execK28_5_pos (s : State) : Result := controlCycle 0x305 28 5 .positive s

/-- K28.5, RD− form 0x0FA. -/
def execK28_5_neg (s : State) : Result := controlCycle 0x0FA 28 5 .negative s

/-- K28.6, RD+ form 0x309. -/
def execK28_6_pos (s : State) : Result := controlCycle 0x309 28 6 .positive s

/-- K28.6, RD− form 0x0F6. -/
def execK28_6_neg (s : State) : Result := controlCycle 0x0F6 28 6 .negative s

/-- K23.7, RD+ form 0x057. -/
def execK23_7_pos (s : State) : Result := controlCycle 0x057 23 7 .positive s

/-- K23.7, RD− form 0x3A8. -/
def execK23_7_neg (s : State) : Result := controlCycle 0x3A8 23 7 .negative s

/-- K27.7, RD+ form 0x097. -/
def execK27_7_pos (s : State) : Result := controlCycle 0x097 27 7 .positive s

/-- K27.7, RD− form 0x368. -/
def execK27_7_neg (s : State) : Result := controlCycle 0x368 27 7 .negative s

/-- K28.7, RD+ form 0x307. -/
def execK28_7_pos (s : State) : Result := controlCycle 0x307 28 7 .positive s

/-- K28.7, RD− form 0x0F8. -/
def execK28_7_neg (s : State) : Result := controlCycle 0x0F8 28 7 .negative s

/-- K29.7, RD+ form 0x117. -/
def execK29_7_pos (s : State) : Result := controlCycle 0x117 29 7 .positive s

/-- K29.7, RD− form 0x2E8. -/
def execK29_7_neg (s : State) : Result := controlCycle 0x2E8 29 7 .negative s

/-- K30.7, RD+ form 0x217. -/
def execK30_7_pos (s : State) : Result := controlCycle 0x217 30 7 .positive s

/-- K30.7, RD− form 0x1E8. -/
def execK30_7_neg (s : State) : Result := controlCycle 0x1E8 30 7 .negative s

end Sys2Proof.Machine
end

