-- ==== Sys2Proof/Machine/Data.lean ====
section
/-! DEFINITION. The meanings of the 440 data codewords: each is the decode cycle of
45_decode_run.md R123 on that codeword, whose table entry is the row's data hit
(42_codeword_lookup_table.md R91). -/

namespace Sys2Proof.Machine

/-- D0.0, RD+ form 0x18B. -/
def execD0_0_pos (s : State) : Result := dataCycle 0x18B 0 0 .positive s

/-- D0.0, RD− form 0x274. -/
def execD0_0_neg (s : State) : Result := dataCycle 0x274 0 0 .negative s

/-- D1.0, RD+ form 0x22B. -/
def execD1_0_pos (s : State) : Result := dataCycle 0x22B 1 0 .positive s

/-- D1.0, RD− form 0x1D4. -/
def execD1_0_neg (s : State) : Result := dataCycle 0x1D4 1 0 .negative s

/-- D2.0, RD+ form 0x12B. -/
def execD2_0_pos (s : State) : Result := dataCycle 0x12B 2 0 .positive s

/-- D2.0, RD− form 0x2D4. -/
def execD2_0_neg (s : State) : Result := dataCycle 0x2D4 2 0 .negative s

/-- D3.0, RD+ form 0x314. -/
def execD3_0_pos (s : State) : Result := dataCycle 0x314 3 0 .positive s

/-- D3.0, RD− form 0x31B. -/
def execD3_0_neg (s : State) : Result := dataCycle 0x31B 3 0 .negative s

/-- D4.0, RD+ form 0x0AB. -/
def execD4_0_pos (s : State) : Result := dataCycle 0x0AB 4 0 .positive s

/-- D4.0, RD− form 0x354. -/
def execD4_0_neg (s : State) : Result := dataCycle 0x354 4 0 .negative s

/-- D5.0, RD+ form 0x294. -/
def execD5_0_pos (s : State) : Result := dataCycle 0x294 5 0 .positive s

/-- D5.0, RD− form 0x29B. -/
def execD5_0_neg (s : State) : Result := dataCycle 0x29B 5 0 .negative s

/-- D6.0, RD+ form 0x194. -/
def execD6_0_pos (s : State) : Result := dataCycle 0x194 6 0 .positive s

/-- D6.0, RD− form 0x19B. -/
def execD6_0_neg (s : State) : Result := dataCycle 0x19B 6 0 .negative s

/-- D7.0, RD+ form 0x074. -/
def execD7_0_pos (s : State) : Result := dataCycle 0x074 7 0 .positive s

/-- D7.0, RD− form 0x38B. -/
def execD7_0_neg (s : State) : Result := dataCycle 0x38B 7 0 .negative s

/-- D8.0, RD+ form 0x06B. -/
def execD8_0_pos (s : State) : Result := dataCycle 0x06B 8 0 .positive s

/-- D8.0, RD− form 0x394. -/
def execD8_0_neg (s : State) : Result := dataCycle 0x394 8 0 .negative s

/-- D9.0, RD+ form 0x254. -/
def execD9_0_pos (s : State) : Result := dataCycle 0x254 9 0 .positive s

/-- D9.0, RD− form 0x25B. -/
def execD9_0_neg (s : State) : Result := dataCycle 0x25B 9 0 .negative s

/-- D10.0, RD+ form 0x154. -/
def execD10_0_pos (s : State) : Result := dataCycle 0x154 10 0 .positive s

/-- D10.0, RD− form 0x15B. -/
def execD10_0_neg (s : State) : Result := dataCycle 0x15B 10 0 .negative s

/-- D11.0, RD+ form 0x344. -/
def execD11_0_pos (s : State) : Result := dataCycle 0x344 11 0 .positive s

/-- D11.0, RD− form 0x34B. -/
def execD11_0_neg (s : State) : Result := dataCycle 0x34B 11 0 .negative s

/-- D12.0, RD+ form 0x0D4. -/
def execD12_0_pos (s : State) : Result := dataCycle 0x0D4 12 0 .positive s

/-- D12.0, RD− form 0x0DB. -/
def execD12_0_neg (s : State) : Result := dataCycle 0x0DB 12 0 .negative s

/-- D13.0, RD+ form 0x2C4. -/
def execD13_0_pos (s : State) : Result := dataCycle 0x2C4 13 0 .positive s

/-- D13.0, RD− form 0x2CB. -/
def execD13_0_neg (s : State) : Result := dataCycle 0x2CB 13 0 .negative s

/-- D14.0, RD+ form 0x1C4. -/
def execD14_0_pos (s : State) : Result := dataCycle 0x1C4 14 0 .positive s

/-- D14.0, RD− form 0x1CB. -/
def execD14_0_neg (s : State) : Result := dataCycle 0x1CB 14 0 .negative s

/-- D15.0, RD+ form 0x28B. -/
def execD15_0_pos (s : State) : Result := dataCycle 0x28B 15 0 .positive s

/-- D15.0, RD− form 0x174. -/
def execD15_0_neg (s : State) : Result := dataCycle 0x174 15 0 .negative s

/-- D16.0, RD+ form 0x24B. -/
def execD16_0_pos (s : State) : Result := dataCycle 0x24B 16 0 .positive s

/-- D16.0, RD− form 0x1B4. -/
def execD16_0_neg (s : State) : Result := dataCycle 0x1B4 16 0 .negative s

/-- D17.0, RD+ form 0x234. -/
def execD17_0_pos (s : State) : Result := dataCycle 0x234 17 0 .positive s

/-- D17.0, RD− form 0x23B. -/
def execD17_0_neg (s : State) : Result := dataCycle 0x23B 17 0 .negative s

/-- D18.0, RD+ form 0x134. -/
def execD18_0_pos (s : State) : Result := dataCycle 0x134 18 0 .positive s

/-- D18.0, RD− form 0x13B. -/
def execD18_0_neg (s : State) : Result := dataCycle 0x13B 18 0 .negative s

/-- D19.0, RD+ form 0x324. -/
def execD19_0_pos (s : State) : Result := dataCycle 0x324 19 0 .positive s

/-- D19.0, RD− form 0x32B. -/
def execD19_0_neg (s : State) : Result := dataCycle 0x32B 19 0 .negative s

/-- D20.0, RD+ form 0x0B4. -/
def execD20_0_pos (s : State) : Result := dataCycle 0x0B4 20 0 .positive s

/-- D20.0, RD− form 0x0BB. -/
def execD20_0_neg (s : State) : Result := dataCycle 0x0BB 20 0 .negative s

/-- D21.0, RD+ form 0x2A4. -/
def execD21_0_pos (s : State) : Result := dataCycle 0x2A4 21 0 .positive s

/-- D21.0, RD− form 0x2AB. -/
def execD21_0_neg (s : State) : Result := dataCycle 0x2AB 21 0 .negative s

/-- D22.0, RD+ form 0x1A4. -/
def execD22_0_pos (s : State) : Result := dataCycle 0x1A4 22 0 .positive s

/-- D22.0, RD− form 0x1AB. -/
def execD22_0_neg (s : State) : Result := dataCycle 0x1AB 22 0 .negative s

/-- D23.0, RD+ form 0x05B. -/
def execD23_0_pos (s : State) : Result := dataCycle 0x05B 23 0 .positive s

/-- D23.0, RD− form 0x3A4. -/
def execD23_0_neg (s : State) : Result := dataCycle 0x3A4 23 0 .negative s

/-- D24.0, RD+ form 0x0CB. -/
def execD24_0_pos (s : State) : Result := dataCycle 0x0CB 24 0 .positive s

/-- D24.0, RD− form 0x334. -/
def execD24_0_neg (s : State) : Result := dataCycle 0x334 24 0 .negative s

/-- D25.0, RD+ form 0x264. -/
def execD25_0_pos (s : State) : Result := dataCycle 0x264 25 0 .positive s

/-- D25.0, RD− form 0x26B. -/
def execD25_0_neg (s : State) : Result := dataCycle 0x26B 25 0 .negative s

/-- D26.0, RD+ form 0x164. -/
def execD26_0_pos (s : State) : Result := dataCycle 0x164 26 0 .positive s

/-- D26.0, RD− form 0x16B. -/
def execD26_0_neg (s : State) : Result := dataCycle 0x16B 26 0 .negative s

/-- D27.0, RD+ form 0x09B. -/
def execD27_0_pos (s : State) : Result := dataCycle 0x09B 27 0 .positive s

/-- D27.0, RD− form 0x364. -/
def execD27_0_neg (s : State) : Result := dataCycle 0x364 27 0 .negative s

/-- D28.0, RD+ form 0x0E4. -/
def execD28_0_pos (s : State) : Result := dataCycle 0x0E4 28 0 .positive s

/-- D28.0, RD− form 0x0EB. -/
def execD28_0_neg (s : State) : Result := dataCycle 0x0EB 28 0 .negative s

/-- D29.0, RD+ form 0x11B. -/
def execD29_0_pos (s : State) : Result := dataCycle 0x11B 29 0 .positive s

/-- D29.0, RD− form 0x2E4. -/
def execD29_0_neg (s : State) : Result := dataCycle 0x2E4 29 0 .negative s

/-- D30.0, RD+ form 0x21B. -/
def execD30_0_pos (s : State) : Result := dataCycle 0x21B 30 0 .positive s

/-- D30.0, RD− form 0x1E4. -/
def execD30_0_neg (s : State) : Result := dataCycle 0x1E4 30 0 .negative s

/-- D31.0, RD+ form 0x14B. -/
def execD31_0_pos (s : State) : Result := dataCycle 0x14B 31 0 .positive s

/-- D31.0, RD− form 0x2B4. -/
def execD31_0_neg (s : State) : Result := dataCycle 0x2B4 31 0 .negative s

/-- D0.1, RD+ form 0x189. -/
def execD0_1_pos (s : State) : Result := dataCycle 0x189 0 1 .positive s

/-- D0.1, RD− form 0x279. -/
def execD0_1_neg (s : State) : Result := dataCycle 0x279 0 1 .negative s

/-- D1.1, RD+ form 0x229. -/
def execD1_1_pos (s : State) : Result := dataCycle 0x229 1 1 .positive s

/-- D1.1, RD− form 0x1D9. -/
def execD1_1_neg (s : State) : Result := dataCycle 0x1D9 1 1 .negative s

/-- D2.1, RD+ form 0x129. -/
def execD2_1_pos (s : State) : Result := dataCycle 0x129 2 1 .positive s

/-- D2.1, RD− form 0x2D9. -/
def execD2_1_neg (s : State) : Result := dataCycle 0x2D9 2 1 .negative s

/-- D3.1, single form 0x319. -/
def execD3_1 (s : State) : Result := dataCycle 0x319 3 1 .neutral s

/-- D4.1, RD+ form 0x0A9. -/
def execD4_1_pos (s : State) : Result := dataCycle 0x0A9 4 1 .positive s

/-- D4.1, RD− form 0x359. -/
def execD4_1_neg (s : State) : Result := dataCycle 0x359 4 1 .negative s

/-- D5.1, single form 0x299. -/
def execD5_1 (s : State) : Result := dataCycle 0x299 5 1 .neutral s

/-- D6.1, single form 0x199. -/
def execD6_1 (s : State) : Result := dataCycle 0x199 6 1 .neutral s

/-- D7.1, RD+ form 0x079. -/
def execD7_1_pos (s : State) : Result := dataCycle 0x079 7 1 .positive s

/-- D7.1, RD− form 0x389. -/
def execD7_1_neg (s : State) : Result := dataCycle 0x389 7 1 .negative s

/-- D8.1, RD+ form 0x069. -/
def execD8_1_pos (s : State) : Result := dataCycle 0x069 8 1 .positive s

/-- D8.1, RD− form 0x399. -/
def execD8_1_neg (s : State) : Result := dataCycle 0x399 8 1 .negative s

/-- D9.1, single form 0x259. -/
def execD9_1 (s : State) : Result := dataCycle 0x259 9 1 .neutral s

/-- D10.1, single form 0x159. -/
def execD10_1 (s : State) : Result := dataCycle 0x159 10 1 .neutral s

/-- D11.1, single form 0x349. -/
def execD11_1 (s : State) : Result := dataCycle 0x349 11 1 .neutral s

/-- D12.1, single form 0x0D9. -/
def execD12_1 (s : State) : Result := dataCycle 0x0D9 12 1 .neutral s

/-- D13.1, single form 0x2C9. -/
def execD13_1 (s : State) : Result := dataCycle 0x2C9 13 1 .neutral s

/-- D14.1, single form 0x1C9. -/
def execD14_1 (s : State) : Result := dataCycle 0x1C9 14 1 .neutral s

/-- D15.1, RD+ form 0x289. -/
def execD15_1_pos (s : State) : Result := dataCycle 0x289 15 1 .positive s

/-- D15.1, RD− form 0x179. -/
def execD15_1_neg (s : State) : Result := dataCycle 0x179 15 1 .negative s

/-- D16.1, RD+ form 0x249. -/
def execD16_1_pos (s : State) : Result := dataCycle 0x249 16 1 .positive s

/-- D16.1, RD− form 0x1B9. -/
def execD16_1_neg (s : State) : Result := dataCycle 0x1B9 16 1 .negative s

/-- D17.1, single form 0x239. -/
def execD17_1 (s : State) : Result := dataCycle 0x239 17 1 .neutral s

/-- D18.1, single form 0x139. -/
def execD18_1 (s : State) : Result := dataCycle 0x139 18 1 .neutral s

/-- D19.1, single form 0x329. -/
def execD19_1 (s : State) : Result := dataCycle 0x329 19 1 .neutral s

/-- D20.1, single form 0x0B9. -/
def execD20_1 (s : State) : Result := dataCycle 0x0B9 20 1 .neutral s

/-- D21.1, single form 0x2A9. -/
def execD21_1 (s : State) : Result := dataCycle 0x2A9 21 1 .neutral s

/-- D22.1, single form 0x1A9. -/
def execD22_1 (s : State) : Result := dataCycle 0x1A9 22 1 .neutral s

/-- D23.1, RD+ form 0x059. -/
def execD23_1_pos (s : State) : Result := dataCycle 0x059 23 1 .positive s

/-- D23.1, RD− form 0x3A9. -/
def execD23_1_neg (s : State) : Result := dataCycle 0x3A9 23 1 .negative s

/-- D24.1, RD+ form 0x0C9. -/
def execD24_1_pos (s : State) : Result := dataCycle 0x0C9 24 1 .positive s

/-- D24.1, RD− form 0x339. -/
def execD24_1_neg (s : State) : Result := dataCycle 0x339 24 1 .negative s

/-- D25.1, single form 0x269. -/
def execD25_1 (s : State) : Result := dataCycle 0x269 25 1 .neutral s

/-- D26.1, single form 0x169. -/
def execD26_1 (s : State) : Result := dataCycle 0x169 26 1 .neutral s

/-- D27.1, RD+ form 0x099. -/
def execD27_1_pos (s : State) : Result := dataCycle 0x099 27 1 .positive s

/-- D27.1, RD− form 0x369. -/
def execD27_1_neg (s : State) : Result := dataCycle 0x369 27 1 .negative s

/-- D28.1, single form 0x0E9. -/
def execD28_1 (s : State) : Result := dataCycle 0x0E9 28 1 .neutral s

/-- D29.1, RD+ form 0x119. -/
def execD29_1_pos (s : State) : Result := dataCycle 0x119 29 1 .positive s

/-- D29.1, RD− form 0x2E9. -/
def execD29_1_neg (s : State) : Result := dataCycle 0x2E9 29 1 .negative s

/-- D30.1, RD+ form 0x219. -/
def execD30_1_pos (s : State) : Result := dataCycle 0x219 30 1 .positive s

/-- D30.1, RD− form 0x1E9. -/
def execD30_1_neg (s : State) : Result := dataCycle 0x1E9 30 1 .negative s

/-- D31.1, RD+ form 0x149. -/
def execD31_1_pos (s : State) : Result := dataCycle 0x149 31 1 .positive s

/-- D31.1, RD− form 0x2B9. -/
def execD31_1_neg (s : State) : Result := dataCycle 0x2B9 31 1 .negative s

/-- D0.2, RD+ form 0x185. -/
def execD0_2_pos (s : State) : Result := dataCycle 0x185 0 2 .positive s

/-- D0.2, RD− form 0x275. -/
def execD0_2_neg (s : State) : Result := dataCycle 0x275 0 2 .negative s

/-- D1.2, RD+ form 0x225. -/
def execD1_2_pos (s : State) : Result := dataCycle 0x225 1 2 .positive s

/-- D1.2, RD− form 0x1D5. -/
def execD1_2_neg (s : State) : Result := dataCycle 0x1D5 1 2 .negative s

/-- D2.2, RD+ form 0x125. -/
def execD2_2_pos (s : State) : Result := dataCycle 0x125 2 2 .positive s

/-- D2.2, RD− form 0x2D5. -/
def execD2_2_neg (s : State) : Result := dataCycle 0x2D5 2 2 .negative s

/-- D3.2, single form 0x315. -/
def execD3_2 (s : State) : Result := dataCycle 0x315 3 2 .neutral s

/-- D4.2, RD+ form 0x0A5. -/
def execD4_2_pos (s : State) : Result := dataCycle 0x0A5 4 2 .positive s

/-- D4.2, RD− form 0x355. -/
def execD4_2_neg (s : State) : Result := dataCycle 0x355 4 2 .negative s

/-- D5.2, single form 0x295. -/
def execD5_2 (s : State) : Result := dataCycle 0x295 5 2 .neutral s

/-- D6.2, single form 0x195. -/
def execD6_2 (s : State) : Result := dataCycle 0x195 6 2 .neutral s

/-- D7.2, RD+ form 0x075. -/
def execD7_2_pos (s : State) : Result := dataCycle 0x075 7 2 .positive s

/-- D7.2, RD− form 0x385. -/
def execD7_2_neg (s : State) : Result := dataCycle 0x385 7 2 .negative s

/-- D8.2, RD+ form 0x065. -/
def execD8_2_pos (s : State) : Result := dataCycle 0x065 8 2 .positive s

/-- D8.2, RD− form 0x395. -/
def execD8_2_neg (s : State) : Result := dataCycle 0x395 8 2 .negative s

/-- D9.2, single form 0x255. -/
def execD9_2 (s : State) : Result := dataCycle 0x255 9 2 .neutral s

/-- D10.2, single form 0x155. -/
def execD10_2 (s : State) : Result := dataCycle 0x155 10 2 .neutral s

/-- D11.2, single form 0x345. -/
def execD11_2 (s : State) : Result := dataCycle 0x345 11 2 .neutral s

/-- D12.2, single form 0x0D5. -/
def execD12_2 (s : State) : Result := dataCycle 0x0D5 12 2 .neutral s

/-- D13.2, single form 0x2C5. -/
def execD13_2 (s : State) : Result := dataCycle 0x2C5 13 2 .neutral s

/-- D14.2, single form 0x1C5. -/
def execD14_2 (s : State) : Result := dataCycle 0x1C5 14 2 .neutral s

/-- D15.2, RD+ form 0x285. -/
def execD15_2_pos (s : State) : Result := dataCycle 0x285 15 2 .positive s

/-- D15.2, RD− form 0x175. -/
def execD15_2_neg (s : State) : Result := dataCycle 0x175 15 2 .negative s

/-- D16.2, RD+ form 0x245. -/
def execD16_2_pos (s : State) : Result := dataCycle 0x245 16 2 .positive s

/-- D16.2, RD− form 0x1B5. -/
def execD16_2_neg (s : State) : Result := dataCycle 0x1B5 16 2 .negative s

/-- D17.2, single form 0x235. -/
def execD17_2 (s : State) : Result := dataCycle 0x235 17 2 .neutral s

/-- D18.2, single form 0x135. -/
def execD18_2 (s : State) : Result := dataCycle 0x135 18 2 .neutral s

/-- D19.2, single form 0x325. -/
def execD19_2 (s : State) : Result := dataCycle 0x325 19 2 .neutral s

/-- D20.2, single form 0x0B5. -/
def execD20_2 (s : State) : Result := dataCycle 0x0B5 20 2 .neutral s

/-- D21.2, single form 0x2A5. -/
def execD21_2 (s : State) : Result := dataCycle 0x2A5 21 2 .neutral s

/-- D22.2, single form 0x1A5. -/
def execD22_2 (s : State) : Result := dataCycle 0x1A5 22 2 .neutral s

/-- D23.2, RD+ form 0x055. -/
def execD23_2_pos (s : State) : Result := dataCycle 0x055 23 2 .positive s

/-- D23.2, RD− form 0x3A5. -/
def execD23_2_neg (s : State) : Result := dataCycle 0x3A5 23 2 .negative s

/-- D24.2, RD+ form 0x0C5. -/
def execD24_2_pos (s : State) : Result := dataCycle 0x0C5 24 2 .positive s

/-- D24.2, RD− form 0x335. -/
def execD24_2_neg (s : State) : Result := dataCycle 0x335 24 2 .negative s

/-- D25.2, single form 0x265. -/
def execD25_2 (s : State) : Result := dataCycle 0x265 25 2 .neutral s

/-- D26.2, single form 0x165. -/
def execD26_2 (s : State) : Result := dataCycle 0x165 26 2 .neutral s

/-- D27.2, RD+ form 0x095. -/
def execD27_2_pos (s : State) : Result := dataCycle 0x095 27 2 .positive s

/-- D27.2, RD− form 0x365. -/
def execD27_2_neg (s : State) : Result := dataCycle 0x365 27 2 .negative s

/-- D28.2, single form 0x0E5. -/
def execD28_2 (s : State) : Result := dataCycle 0x0E5 28 2 .neutral s

/-- D29.2, RD+ form 0x115. -/
def execD29_2_pos (s : State) : Result := dataCycle 0x115 29 2 .positive s

/-- D29.2, RD− form 0x2E5. -/
def execD29_2_neg (s : State) : Result := dataCycle 0x2E5 29 2 .negative s

/-- D30.2, RD+ form 0x215. -/
def execD30_2_pos (s : State) : Result := dataCycle 0x215 30 2 .positive s

/-- D30.2, RD− form 0x1E5. -/
def execD30_2_neg (s : State) : Result := dataCycle 0x1E5 30 2 .negative s

/-- D31.2, RD+ form 0x145. -/
def execD31_2_pos (s : State) : Result := dataCycle 0x145 31 2 .positive s

/-- D31.2, RD− form 0x2B5. -/
def execD31_2_neg (s : State) : Result := dataCycle 0x2B5 31 2 .negative s

/-- D0.3, RD+ form 0x18C. -/
def execD0_3_pos (s : State) : Result := dataCycle 0x18C 0 3 .positive s

/-- D0.3, RD− form 0x273. -/
def execD0_3_neg (s : State) : Result := dataCycle 0x273 0 3 .negative s

/-- D1.3, RD+ form 0x22C. -/
def execD1_3_pos (s : State) : Result := dataCycle 0x22C 1 3 .positive s

/-- D1.3, RD− form 0x1D3. -/
def execD1_3_neg (s : State) : Result := dataCycle 0x1D3 1 3 .negative s

/-- D2.3, RD+ form 0x12C. -/
def execD2_3_pos (s : State) : Result := dataCycle 0x12C 2 3 .positive s

/-- D2.3, RD− form 0x2D3. -/
def execD2_3_neg (s : State) : Result := dataCycle 0x2D3 2 3 .negative s

/-- D3.3, RD+ form 0x313. -/
def execD3_3_pos (s : State) : Result := dataCycle 0x313 3 3 .positive s

/-- D3.3, RD− form 0x31C. -/
def execD3_3_neg (s : State) : Result := dataCycle 0x31C 3 3 .negative s

/-- D4.3, RD+ form 0x0AC. -/
def execD4_3_pos (s : State) : Result := dataCycle 0x0AC 4 3 .positive s

/-- D4.3, RD− form 0x353. -/
def execD4_3_neg (s : State) : Result := dataCycle 0x353 4 3 .negative s

/-- D5.3, RD+ form 0x293. -/
def execD5_3_pos (s : State) : Result := dataCycle 0x293 5 3 .positive s

/-- D5.3, RD− form 0x29C. -/
def execD5_3_neg (s : State) : Result := dataCycle 0x29C 5 3 .negative s

/-- D6.3, RD+ form 0x193. -/
def execD6_3_pos (s : State) : Result := dataCycle 0x193 6 3 .positive s

/-- D6.3, RD− form 0x19C. -/
def execD6_3_neg (s : State) : Result := dataCycle 0x19C 6 3 .negative s

/-- D7.3, RD+ form 0x073. -/
def execD7_3_pos (s : State) : Result := dataCycle 0x073 7 3 .positive s

/-- D7.3, RD− form 0x38C. -/
def execD7_3_neg (s : State) : Result := dataCycle 0x38C 7 3 .negative s

/-- D8.3, RD+ form 0x06C. -/
def execD8_3_pos (s : State) : Result := dataCycle 0x06C 8 3 .positive s

/-- D8.3, RD− form 0x393. -/
def execD8_3_neg (s : State) : Result := dataCycle 0x393 8 3 .negative s

/-- D9.3, RD+ form 0x253. -/
def execD9_3_pos (s : State) : Result := dataCycle 0x253 9 3 .positive s

/-- D9.3, RD− form 0x25C. -/
def execD9_3_neg (s : State) : Result := dataCycle 0x25C 9 3 .negative s

/-- D10.3, RD+ form 0x153. -/
def execD10_3_pos (s : State) : Result := dataCycle 0x153 10 3 .positive s

/-- D10.3, RD− form 0x15C. -/
def execD10_3_neg (s : State) : Result := dataCycle 0x15C 10 3 .negative s

/-- D11.3, RD+ form 0x343. -/
def execD11_3_pos (s : State) : Result := dataCycle 0x343 11 3 .positive s

/-- D11.3, RD− form 0x34C. -/
def execD11_3_neg (s : State) : Result := dataCycle 0x34C 11 3 .negative s

/-- D12.3, RD+ form 0x0D3. -/
def execD12_3_pos (s : State) : Result := dataCycle 0x0D3 12 3 .positive s

/-- D12.3, RD− form 0x0DC. -/
def execD12_3_neg (s : State) : Result := dataCycle 0x0DC 12 3 .negative s

/-- D13.3, RD+ form 0x2C3. -/
def execD13_3_pos (s : State) : Result := dataCycle 0x2C3 13 3 .positive s

/-- D13.3, RD− form 0x2CC. -/
def execD13_3_neg (s : State) : Result := dataCycle 0x2CC 13 3 .negative s

/-- D14.3, RD+ form 0x1C3. -/
def execD14_3_pos (s : State) : Result := dataCycle 0x1C3 14 3 .positive s

/-- D14.3, RD− form 0x1CC. -/
def execD14_3_neg (s : State) : Result := dataCycle 0x1CC 14 3 .negative s

/-- D15.3, RD+ form 0x28C. -/
def execD15_3_pos (s : State) : Result := dataCycle 0x28C 15 3 .positive s

/-- D15.3, RD− form 0x173. -/
def execD15_3_neg (s : State) : Result := dataCycle 0x173 15 3 .negative s

/-- D16.3, RD+ form 0x24C. -/
def execD16_3_pos (s : State) : Result := dataCycle 0x24C 16 3 .positive s

/-- D16.3, RD− form 0x1B3. -/
def execD16_3_neg (s : State) : Result := dataCycle 0x1B3 16 3 .negative s

/-- D17.3, RD+ form 0x233. -/
def execD17_3_pos (s : State) : Result := dataCycle 0x233 17 3 .positive s

/-- D17.3, RD− form 0x23C. -/
def execD17_3_neg (s : State) : Result := dataCycle 0x23C 17 3 .negative s

/-- D18.3, RD+ form 0x133. -/
def execD18_3_pos (s : State) : Result := dataCycle 0x133 18 3 .positive s

/-- D18.3, RD− form 0x13C. -/
def execD18_3_neg (s : State) : Result := dataCycle 0x13C 18 3 .negative s

/-- D19.3, RD+ form 0x323. -/
def execD19_3_pos (s : State) : Result := dataCycle 0x323 19 3 .positive s

/-- D19.3, RD− form 0x32C. -/
def execD19_3_neg (s : State) : Result := dataCycle 0x32C 19 3 .negative s

/-- D20.3, RD+ form 0x0B3. -/
def execD20_3_pos (s : State) : Result := dataCycle 0x0B3 20 3 .positive s

/-- D20.3, RD− form 0x0BC. -/
def execD20_3_neg (s : State) : Result := dataCycle 0x0BC 20 3 .negative s

/-- D21.3, RD+ form 0x2A3. -/
def execD21_3_pos (s : State) : Result := dataCycle 0x2A3 21 3 .positive s

/-- D21.3, RD− form 0x2AC. -/
def execD21_3_neg (s : State) : Result := dataCycle 0x2AC 21 3 .negative s

/-- D22.3, RD+ form 0x1A3. -/
def execD22_3_pos (s : State) : Result := dataCycle 0x1A3 22 3 .positive s

/-- D22.3, RD− form 0x1AC. -/
def execD22_3_neg (s : State) : Result := dataCycle 0x1AC 22 3 .negative s

/-- D23.3, RD+ form 0x05C. -/
def execD23_3_pos (s : State) : Result := dataCycle 0x05C 23 3 .positive s

/-- D23.3, RD− form 0x3A3. -/
def execD23_3_neg (s : State) : Result := dataCycle 0x3A3 23 3 .negative s

/-- D24.3, RD+ form 0x0CC. -/
def execD24_3_pos (s : State) : Result := dataCycle 0x0CC 24 3 .positive s

/-- D24.3, RD− form 0x333. -/
def execD24_3_neg (s : State) : Result := dataCycle 0x333 24 3 .negative s

/-- D25.3, RD+ form 0x263. -/
def execD25_3_pos (s : State) : Result := dataCycle 0x263 25 3 .positive s

/-- D25.3, RD− form 0x26C. -/
def execD25_3_neg (s : State) : Result := dataCycle 0x26C 25 3 .negative s

/-- D26.3, RD+ form 0x163. -/
def execD26_3_pos (s : State) : Result := dataCycle 0x163 26 3 .positive s

/-- D26.3, RD− form 0x16C. -/
def execD26_3_neg (s : State) : Result := dataCycle 0x16C 26 3 .negative s

/-- D27.3, RD+ form 0x09C. -/
def execD27_3_pos (s : State) : Result := dataCycle 0x09C 27 3 .positive s

/-- D27.3, RD− form 0x363. -/
def execD27_3_neg (s : State) : Result := dataCycle 0x363 27 3 .negative s

/-- D28.3, RD+ form 0x0E3. -/
def execD28_3_pos (s : State) : Result := dataCycle 0x0E3 28 3 .positive s

/-- D28.3, RD− form 0x0EC. -/
def execD28_3_neg (s : State) : Result := dataCycle 0x0EC 28 3 .negative s

/-- D29.3, RD+ form 0x11C. -/
def execD29_3_pos (s : State) : Result := dataCycle 0x11C 29 3 .positive s

/-- D29.3, RD− form 0x2E3. -/
def execD29_3_neg (s : State) : Result := dataCycle 0x2E3 29 3 .negative s

/-- D30.3, RD+ form 0x21C. -/
def execD30_3_pos (s : State) : Result := dataCycle 0x21C 30 3 .positive s

/-- D30.3, RD− form 0x1E3. -/
def execD30_3_neg (s : State) : Result := dataCycle 0x1E3 30 3 .negative s

/-- D31.3, RD+ form 0x14C. -/
def execD31_3_pos (s : State) : Result := dataCycle 0x14C 31 3 .positive s

/-- D31.3, RD− form 0x2B3. -/
def execD31_3_neg (s : State) : Result := dataCycle 0x2B3 31 3 .negative s

/-- D0.4, RD+ form 0x18D. -/
def execD0_4_pos (s : State) : Result := dataCycle 0x18D 0 4 .positive s

/-- D0.4, RD− form 0x272. -/
def execD0_4_neg (s : State) : Result := dataCycle 0x272 0 4 .negative s

/-- D1.4, RD+ form 0x22D. -/
def execD1_4_pos (s : State) : Result := dataCycle 0x22D 1 4 .positive s

/-- D1.4, RD− form 0x1D2. -/
def execD1_4_neg (s : State) : Result := dataCycle 0x1D2 1 4 .negative s

/-- D2.4, RD+ form 0x12D. -/
def execD2_4_pos (s : State) : Result := dataCycle 0x12D 2 4 .positive s

/-- D2.4, RD− form 0x2D2. -/
def execD2_4_neg (s : State) : Result := dataCycle 0x2D2 2 4 .negative s

/-- D3.4, RD+ form 0x312. -/
def execD3_4_pos (s : State) : Result := dataCycle 0x312 3 4 .positive s

/-- D3.4, RD− form 0x31D. -/
def execD3_4_neg (s : State) : Result := dataCycle 0x31D 3 4 .negative s

/-- D4.4, RD+ form 0x0AD. -/
def execD4_4_pos (s : State) : Result := dataCycle 0x0AD 4 4 .positive s

/-- D4.4, RD− form 0x352. -/
def execD4_4_neg (s : State) : Result := dataCycle 0x352 4 4 .negative s

/-- D5.4, RD+ form 0x292. -/
def execD5_4_pos (s : State) : Result := dataCycle 0x292 5 4 .positive s

/-- D5.4, RD− form 0x29D. -/
def execD5_4_neg (s : State) : Result := dataCycle 0x29D 5 4 .negative s

/-- D6.4, RD+ form 0x192. -/
def execD6_4_pos (s : State) : Result := dataCycle 0x192 6 4 .positive s

/-- D6.4, RD− form 0x19D. -/
def execD6_4_neg (s : State) : Result := dataCycle 0x19D 6 4 .negative s

/-- D7.4, RD+ form 0x072. -/
def execD7_4_pos (s : State) : Result := dataCycle 0x072 7 4 .positive s

/-- D7.4, RD− form 0x38D. -/
def execD7_4_neg (s : State) : Result := dataCycle 0x38D 7 4 .negative s

/-- D8.4, RD+ form 0x06D. -/
def execD8_4_pos (s : State) : Result := dataCycle 0x06D 8 4 .positive s

/-- D8.4, RD− form 0x392. -/
def execD8_4_neg (s : State) : Result := dataCycle 0x392 8 4 .negative s

/-- D9.4, RD+ form 0x252. -/
def execD9_4_pos (s : State) : Result := dataCycle 0x252 9 4 .positive s

/-- D9.4, RD− form 0x25D. -/
def execD9_4_neg (s : State) : Result := dataCycle 0x25D 9 4 .negative s

/-- D10.4, RD+ form 0x152. -/
def execD10_4_pos (s : State) : Result := dataCycle 0x152 10 4 .positive s

/-- D10.4, RD− form 0x15D. -/
def execD10_4_neg (s : State) : Result := dataCycle 0x15D 10 4 .negative s

/-- D11.4, RD+ form 0x342. -/
def execD11_4_pos (s : State) : Result := dataCycle 0x342 11 4 .positive s

/-- D11.4, RD− form 0x34D. -/
def execD11_4_neg (s : State) : Result := dataCycle 0x34D 11 4 .negative s

/-- D12.4, RD+ form 0x0D2. -/
def execD12_4_pos (s : State) : Result := dataCycle 0x0D2 12 4 .positive s

/-- D12.4, RD− form 0x0DD. -/
def execD12_4_neg (s : State) : Result := dataCycle 0x0DD 12 4 .negative s

/-- D13.4, RD+ form 0x2C2. -/
def execD13_4_pos (s : State) : Result := dataCycle 0x2C2 13 4 .positive s

/-- D13.4, RD− form 0x2CD. -/
def execD13_4_neg (s : State) : Result := dataCycle 0x2CD 13 4 .negative s

/-- D14.4, RD+ form 0x1C2. -/
def execD14_4_pos (s : State) : Result := dataCycle 0x1C2 14 4 .positive s

/-- D14.4, RD− form 0x1CD. -/
def execD14_4_neg (s : State) : Result := dataCycle 0x1CD 14 4 .negative s

/-- D15.4, RD+ form 0x28D. -/
def execD15_4_pos (s : State) : Result := dataCycle 0x28D 15 4 .positive s

/-- D15.4, RD− form 0x172. -/
def execD15_4_neg (s : State) : Result := dataCycle 0x172 15 4 .negative s

/-- D16.4, RD+ form 0x24D. -/
def execD16_4_pos (s : State) : Result := dataCycle 0x24D 16 4 .positive s

/-- D16.4, RD− form 0x1B2. -/
def execD16_4_neg (s : State) : Result := dataCycle 0x1B2 16 4 .negative s

/-- D17.4, RD+ form 0x232. -/
def execD17_4_pos (s : State) : Result := dataCycle 0x232 17 4 .positive s

/-- D17.4, RD− form 0x23D. -/
def execD17_4_neg (s : State) : Result := dataCycle 0x23D 17 4 .negative s

/-- D18.4, RD+ form 0x132. -/
def execD18_4_pos (s : State) : Result := dataCycle 0x132 18 4 .positive s

/-- D18.4, RD− form 0x13D. -/
def execD18_4_neg (s : State) : Result := dataCycle 0x13D 18 4 .negative s

/-- D19.4, RD+ form 0x322. -/
def execD19_4_pos (s : State) : Result := dataCycle 0x322 19 4 .positive s

/-- D19.4, RD− form 0x32D. -/
def execD19_4_neg (s : State) : Result := dataCycle 0x32D 19 4 .negative s

/-- D20.4, RD+ form 0x0B2. -/
def execD20_4_pos (s : State) : Result := dataCycle 0x0B2 20 4 .positive s

/-- D20.4, RD− form 0x0BD. -/
def execD20_4_neg (s : State) : Result := dataCycle 0x0BD 20 4 .negative s

/-- D21.4, RD+ form 0x2A2. -/
def execD21_4_pos (s : State) : Result := dataCycle 0x2A2 21 4 .positive s

/-- D21.4, RD− form 0x2AD. -/
def execD21_4_neg (s : State) : Result := dataCycle 0x2AD 21 4 .negative s

/-- D22.4, RD+ form 0x1A2. -/
def execD22_4_pos (s : State) : Result := dataCycle 0x1A2 22 4 .positive s

/-- D22.4, RD− form 0x1AD. -/
def execD22_4_neg (s : State) : Result := dataCycle 0x1AD 22 4 .negative s

/-- D23.4, RD+ form 0x05D. -/
def execD23_4_pos (s : State) : Result := dataCycle 0x05D 23 4 .positive s

/-- D23.4, RD− form 0x3A2. -/
def execD23_4_neg (s : State) : Result := dataCycle 0x3A2 23 4 .negative s

/-- D24.4, RD+ form 0x0CD. -/
def execD24_4_pos (s : State) : Result := dataCycle 0x0CD 24 4 .positive s

/-- D24.4, RD− form 0x332. -/
def execD24_4_neg (s : State) : Result := dataCycle 0x332 24 4 .negative s

/-- D25.4, RD+ form 0x262. -/
def execD25_4_pos (s : State) : Result := dataCycle 0x262 25 4 .positive s

/-- D25.4, RD− form 0x26D. -/
def execD25_4_neg (s : State) : Result := dataCycle 0x26D 25 4 .negative s

/-- D26.4, RD+ form 0x162. -/
def execD26_4_pos (s : State) : Result := dataCycle 0x162 26 4 .positive s

/-- D26.4, RD− form 0x16D. -/
def execD26_4_neg (s : State) : Result := dataCycle 0x16D 26 4 .negative s

/-- D27.4, RD+ form 0x09D. -/
def execD27_4_pos (s : State) : Result := dataCycle 0x09D 27 4 .positive s

/-- D27.4, RD− form 0x362. -/
def execD27_4_neg (s : State) : Result := dataCycle 0x362 27 4 .negative s

/-- D28.4, RD+ form 0x0E2. -/
def execD28_4_pos (s : State) : Result := dataCycle 0x0E2 28 4 .positive s

/-- D28.4, RD− form 0x0ED. -/
def execD28_4_neg (s : State) : Result := dataCycle 0x0ED 28 4 .negative s

/-- D29.4, RD+ form 0x11D. -/
def execD29_4_pos (s : State) : Result := dataCycle 0x11D 29 4 .positive s

/-- D29.4, RD− form 0x2E2. -/
def execD29_4_neg (s : State) : Result := dataCycle 0x2E2 29 4 .negative s

/-- D30.4, RD+ form 0x21D. -/
def execD30_4_pos (s : State) : Result := dataCycle 0x21D 30 4 .positive s

/-- D30.4, RD− form 0x1E2. -/
def execD30_4_neg (s : State) : Result := dataCycle 0x1E2 30 4 .negative s

/-- D31.4, RD+ form 0x14D. -/
def execD31_4_pos (s : State) : Result := dataCycle 0x14D 31 4 .positive s

/-- D31.4, RD− form 0x2B2. -/
def execD31_4_neg (s : State) : Result := dataCycle 0x2B2 31 4 .negative s

/-- D0.5, RD+ form 0x18A. -/
def execD0_5_pos (s : State) : Result := dataCycle 0x18A 0 5 .positive s

/-- D0.5, RD− form 0x27A. -/
def execD0_5_neg (s : State) : Result := dataCycle 0x27A 0 5 .negative s

/-- D1.5, RD+ form 0x22A. -/
def execD1_5_pos (s : State) : Result := dataCycle 0x22A 1 5 .positive s

/-- D1.5, RD− form 0x1DA. -/
def execD1_5_neg (s : State) : Result := dataCycle 0x1DA 1 5 .negative s

/-- D2.5, RD+ form 0x12A. -/
def execD2_5_pos (s : State) : Result := dataCycle 0x12A 2 5 .positive s

/-- D2.5, RD− form 0x2DA. -/
def execD2_5_neg (s : State) : Result := dataCycle 0x2DA 2 5 .negative s

/-- D3.5, single form 0x31A. -/
def execD3_5 (s : State) : Result := dataCycle 0x31A 3 5 .neutral s

/-- D4.5, RD+ form 0x0AA. -/
def execD4_5_pos (s : State) : Result := dataCycle 0x0AA 4 5 .positive s

/-- D4.5, RD− form 0x35A. -/
def execD4_5_neg (s : State) : Result := dataCycle 0x35A 4 5 .negative s

/-- D5.5, single form 0x29A. -/
def execD5_5 (s : State) : Result := dataCycle 0x29A 5 5 .neutral s

/-- D6.5, single form 0x19A. -/
def execD6_5 (s : State) : Result := dataCycle 0x19A 6 5 .neutral s

/-- D7.5, RD+ form 0x07A. -/
def execD7_5_pos (s : State) : Result := dataCycle 0x07A 7 5 .positive s

/-- D7.5, RD− form 0x38A. -/
def execD7_5_neg (s : State) : Result := dataCycle 0x38A 7 5 .negative s

/-- D8.5, RD+ form 0x06A. -/
def execD8_5_pos (s : State) : Result := dataCycle 0x06A 8 5 .positive s

/-- D8.5, RD− form 0x39A. -/
def execD8_5_neg (s : State) : Result := dataCycle 0x39A 8 5 .negative s

/-- D9.5, single form 0x25A. -/
def execD9_5 (s : State) : Result := dataCycle 0x25A 9 5 .neutral s

/-- D10.5, single form 0x15A. -/
def execD10_5 (s : State) : Result := dataCycle 0x15A 10 5 .neutral s

/-- D11.5, single form 0x34A. -/
def execD11_5 (s : State) : Result := dataCycle 0x34A 11 5 .neutral s

/-- D12.5, single form 0x0DA. -/
def execD12_5 (s : State) : Result := dataCycle 0x0DA 12 5 .neutral s

/-- D13.5, single form 0x2CA. -/
def execD13_5 (s : State) : Result := dataCycle 0x2CA 13 5 .neutral s

/-- D14.5, single form 0x1CA. -/
def execD14_5 (s : State) : Result := dataCycle 0x1CA 14 5 .neutral s

/-- D15.5, RD+ form 0x28A. -/
def execD15_5_pos (s : State) : Result := dataCycle 0x28A 15 5 .positive s

/-- D15.5, RD− form 0x17A. -/
def execD15_5_neg (s : State) : Result := dataCycle 0x17A 15 5 .negative s

/-- D16.5, RD+ form 0x24A. -/
def execD16_5_pos (s : State) : Result := dataCycle 0x24A 16 5 .positive s

/-- D16.5, RD− form 0x1BA. -/
def execD16_5_neg (s : State) : Result := dataCycle 0x1BA 16 5 .negative s

/-- D17.5, single form 0x23A. -/
def execD17_5 (s : State) : Result := dataCycle 0x23A 17 5 .neutral s

/-- D18.5, single form 0x13A. -/
def execD18_5 (s : State) : Result := dataCycle 0x13A 18 5 .neutral s

/-- D19.5, single form 0x32A. -/
def execD19_5 (s : State) : Result := dataCycle 0x32A 19 5 .neutral s

/-- D20.5, single form 0x0BA. -/
def execD20_5 (s : State) : Result := dataCycle 0x0BA 20 5 .neutral s

/-- D21.5, single form 0x2AA. -/
def execD21_5 (s : State) : Result := dataCycle 0x2AA 21 5 .neutral s

/-- D22.5, single form 0x1AA. -/
def execD22_5 (s : State) : Result := dataCycle 0x1AA 22 5 .neutral s

/-- D23.5, RD+ form 0x05A. -/
def execD23_5_pos (s : State) : Result := dataCycle 0x05A 23 5 .positive s

/-- D23.5, RD− form 0x3AA. -/
def execD23_5_neg (s : State) : Result := dataCycle 0x3AA 23 5 .negative s

/-- D24.5, RD+ form 0x0CA. -/
def execD24_5_pos (s : State) : Result := dataCycle 0x0CA 24 5 .positive s

/-- D24.5, RD− form 0x33A. -/
def execD24_5_neg (s : State) : Result := dataCycle 0x33A 24 5 .negative s

/-- D25.5, single form 0x26A. -/
def execD25_5 (s : State) : Result := dataCycle 0x26A 25 5 .neutral s

/-- D26.5, single form 0x16A. -/
def execD26_5 (s : State) : Result := dataCycle 0x16A 26 5 .neutral s

/-- D27.5, RD+ form 0x09A. -/
def execD27_5_pos (s : State) : Result := dataCycle 0x09A 27 5 .positive s

/-- D27.5, RD− form 0x36A. -/
def execD27_5_neg (s : State) : Result := dataCycle 0x36A 27 5 .negative s

/-- D28.5, single form 0x0EA. -/
def execD28_5 (s : State) : Result := dataCycle 0x0EA 28 5 .neutral s

/-- D29.5, RD+ form 0x11A. -/
def execD29_5_pos (s : State) : Result := dataCycle 0x11A 29 5 .positive s

/-- D29.5, RD− form 0x2EA. -/
def execD29_5_neg (s : State) : Result := dataCycle 0x2EA 29 5 .negative s

/-- D30.5, RD+ form 0x21A. -/
def execD30_5_pos (s : State) : Result := dataCycle 0x21A 30 5 .positive s

/-- D30.5, RD− form 0x1EA. -/
def execD30_5_neg (s : State) : Result := dataCycle 0x1EA 30 5 .negative s

/-- D31.5, RD+ form 0x14A. -/
def execD31_5_pos (s : State) : Result := dataCycle 0x14A 31 5 .positive s

/-- D31.5, RD− form 0x2BA. -/
def execD31_5_neg (s : State) : Result := dataCycle 0x2BA 31 5 .negative s

/-- D0.6, RD+ form 0x186. -/
def execD0_6_pos (s : State) : Result := dataCycle 0x186 0 6 .positive s

/-- D0.6, RD− form 0x276. -/
def execD0_6_neg (s : State) : Result := dataCycle 0x276 0 6 .negative s

/-- D1.6, RD+ form 0x226. -/
def execD1_6_pos (s : State) : Result := dataCycle 0x226 1 6 .positive s

/-- D1.6, RD− form 0x1D6. -/
def execD1_6_neg (s : State) : Result := dataCycle 0x1D6 1 6 .negative s

/-- D2.6, RD+ form 0x126. -/
def execD2_6_pos (s : State) : Result := dataCycle 0x126 2 6 .positive s

/-- D2.6, RD− form 0x2D6. -/
def execD2_6_neg (s : State) : Result := dataCycle 0x2D6 2 6 .negative s

/-- D3.6, single form 0x316. -/
def execD3_6 (s : State) : Result := dataCycle 0x316 3 6 .neutral s

/-- D4.6, RD+ form 0x0A6. -/
def execD4_6_pos (s : State) : Result := dataCycle 0x0A6 4 6 .positive s

/-- D4.6, RD− form 0x356. -/
def execD4_6_neg (s : State) : Result := dataCycle 0x356 4 6 .negative s

/-- D5.6, single form 0x296. -/
def execD5_6 (s : State) : Result := dataCycle 0x296 5 6 .neutral s

/-- D6.6, single form 0x196. -/
def execD6_6 (s : State) : Result := dataCycle 0x196 6 6 .neutral s

/-- D7.6, RD+ form 0x076. -/
def execD7_6_pos (s : State) : Result := dataCycle 0x076 7 6 .positive s

/-- D7.6, RD− form 0x386. -/
def execD7_6_neg (s : State) : Result := dataCycle 0x386 7 6 .negative s

/-- D8.6, RD+ form 0x066. -/
def execD8_6_pos (s : State) : Result := dataCycle 0x066 8 6 .positive s

/-- D8.6, RD− form 0x396. -/
def execD8_6_neg (s : State) : Result := dataCycle 0x396 8 6 .negative s

/-- D9.6, single form 0x256. -/
def execD9_6 (s : State) : Result := dataCycle 0x256 9 6 .neutral s

/-- D10.6, single form 0x156. -/
def execD10_6 (s : State) : Result := dataCycle 0x156 10 6 .neutral s

/-- D11.6, single form 0x346. -/
def execD11_6 (s : State) : Result := dataCycle 0x346 11 6 .neutral s

/-- D12.6, single form 0x0D6. -/
def execD12_6 (s : State) : Result := dataCycle 0x0D6 12 6 .neutral s

/-- D13.6, single form 0x2C6. -/
def execD13_6 (s : State) : Result := dataCycle 0x2C6 13 6 .neutral s

/-- D14.6, single form 0x1C6. -/
def execD14_6 (s : State) : Result := dataCycle 0x1C6 14 6 .neutral s

/-- D15.6, RD+ form 0x286. -/
def execD15_6_pos (s : State) : Result := dataCycle 0x286 15 6 .positive s

/-- D15.6, RD− form 0x176. -/
def execD15_6_neg (s : State) : Result := dataCycle 0x176 15 6 .negative s

/-- D16.6, RD+ form 0x246. -/
def execD16_6_pos (s : State) : Result := dataCycle 0x246 16 6 .positive s

/-- D16.6, RD− form 0x1B6. -/
def execD16_6_neg (s : State) : Result := dataCycle 0x1B6 16 6 .negative s

/-- D17.6, single form 0x236. -/
def execD17_6 (s : State) : Result := dataCycle 0x236 17 6 .neutral s

/-- D18.6, single form 0x136. -/
def execD18_6 (s : State) : Result := dataCycle 0x136 18 6 .neutral s

/-- D19.6, single form 0x326. -/
def execD19_6 (s : State) : Result := dataCycle 0x326 19 6 .neutral s

/-- D20.6, single form 0x0B6. -/
def execD20_6 (s : State) : Result := dataCycle 0x0B6 20 6 .neutral s

/-- D21.6, single form 0x2A6. -/
def execD21_6 (s : State) : Result := dataCycle 0x2A6 21 6 .neutral s

/-- D22.6, single form 0x1A6. -/
def execD22_6 (s : State) : Result := dataCycle 0x1A6 22 6 .neutral s

/-- D23.6, RD+ form 0x056. -/
def execD23_6_pos (s : State) : Result := dataCycle 0x056 23 6 .positive s

/-- D23.6, RD− form 0x3A6. -/
def execD23_6_neg (s : State) : Result := dataCycle 0x3A6 23 6 .negative s

/-- D24.6, RD+ form 0x0C6. -/
def execD24_6_pos (s : State) : Result := dataCycle 0x0C6 24 6 .positive s

/-- D24.6, RD− form 0x336. -/
def execD24_6_neg (s : State) : Result := dataCycle 0x336 24 6 .negative s

/-- D25.6, single form 0x266. -/
def execD25_6 (s : State) : Result := dataCycle 0x266 25 6 .neutral s

/-- D26.6, single form 0x166. -/
def execD26_6 (s : State) : Result := dataCycle 0x166 26 6 .neutral s

/-- D27.6, RD+ form 0x096. -/
def execD27_6_pos (s : State) : Result := dataCycle 0x096 27 6 .positive s

/-- D27.6, RD− form 0x366. -/
def execD27_6_neg (s : State) : Result := dataCycle 0x366 27 6 .negative s

/-- D28.6, single form 0x0E6. -/
def execD28_6 (s : State) : Result := dataCycle 0x0E6 28 6 .neutral s

/-- D29.6, RD+ form 0x116. -/
def execD29_6_pos (s : State) : Result := dataCycle 0x116 29 6 .positive s

/-- D29.6, RD− form 0x2E6. -/
def execD29_6_neg (s : State) : Result := dataCycle 0x2E6 29 6 .negative s

/-- D30.6, RD+ form 0x216. -/
def execD30_6_pos (s : State) : Result := dataCycle 0x216 30 6 .positive s

/-- D30.6, RD− form 0x1E6. -/
def execD30_6_neg (s : State) : Result := dataCycle 0x1E6 30 6 .negative s

/-- D31.6, RD+ form 0x146. -/
def execD31_6_pos (s : State) : Result := dataCycle 0x146 31 6 .positive s

/-- D31.6, RD− form 0x2B6. -/
def execD31_6_neg (s : State) : Result := dataCycle 0x2B6 31 6 .negative s

/-- D0.7, RD+ form 0x18E. -/
def execD0_7_pos (s : State) : Result := dataCycle 0x18E 0 7 .positive s

/-- D0.7, RD− form 0x271. -/
def execD0_7_neg (s : State) : Result := dataCycle 0x271 0 7 .negative s

/-- D1.7, RD+ form 0x22E. -/
def execD1_7_pos (s : State) : Result := dataCycle 0x22E 1 7 .positive s

/-- D1.7, RD− form 0x1D1. -/
def execD1_7_neg (s : State) : Result := dataCycle 0x1D1 1 7 .negative s

/-- D2.7, RD+ form 0x12E. -/
def execD2_7_pos (s : State) : Result := dataCycle 0x12E 2 7 .positive s

/-- D2.7, RD− form 0x2D1. -/
def execD2_7_neg (s : State) : Result := dataCycle 0x2D1 2 7 .negative s

/-- D3.7, RD+ form 0x311. -/
def execD3_7_pos (s : State) : Result := dataCycle 0x311 3 7 .positive s

/-- D3.7, RD− form 0x31E. -/
def execD3_7_neg (s : State) : Result := dataCycle 0x31E 3 7 .negative s

/-- D4.7, RD+ form 0x0AE. -/
def execD4_7_pos (s : State) : Result := dataCycle 0x0AE 4 7 .positive s

/-- D4.7, RD− form 0x351. -/
def execD4_7_neg (s : State) : Result := dataCycle 0x351 4 7 .negative s

/-- D5.7, RD+ form 0x291. -/
def execD5_7_pos (s : State) : Result := dataCycle 0x291 5 7 .positive s

/-- D5.7, RD− form 0x29E. -/
def execD5_7_neg (s : State) : Result := dataCycle 0x29E 5 7 .negative s

/-- D6.7, RD+ form 0x191. -/
def execD6_7_pos (s : State) : Result := dataCycle 0x191 6 7 .positive s

/-- D6.7, RD− form 0x19E. -/
def execD6_7_neg (s : State) : Result := dataCycle 0x19E 6 7 .negative s

/-- D7.7, RD+ form 0x071. -/
def execD7_7_pos (s : State) : Result := dataCycle 0x071 7 7 .positive s

/-- D7.7, RD− form 0x38E. -/
def execD7_7_neg (s : State) : Result := dataCycle 0x38E 7 7 .negative s

/-- D8.7, RD+ form 0x06E. -/
def execD8_7_pos (s : State) : Result := dataCycle 0x06E 8 7 .positive s

/-- D8.7, RD− form 0x391. -/
def execD8_7_neg (s : State) : Result := dataCycle 0x391 8 7 .negative s

/-- D9.7, RD+ form 0x251. -/
def execD9_7_pos (s : State) : Result := dataCycle 0x251 9 7 .positive s

/-- D9.7, RD− form 0x25E. -/
def execD9_7_neg (s : State) : Result := dataCycle 0x25E 9 7 .negative s

/-- D10.7, RD+ form 0x151. -/
def execD10_7_pos (s : State) : Result := dataCycle 0x151 10 7 .positive s

/-- D10.7, RD− form 0x15E. -/
def execD10_7_neg (s : State) : Result := dataCycle 0x15E 10 7 .negative s

/-- D11.7, RD+ form 0x348. -/
def execD11_7_pos (s : State) : Result := dataCycle 0x348 11 7 .positive s

/-- D11.7, RD− form 0x34E. -/
def execD11_7_neg (s : State) : Result := dataCycle 0x34E 11 7 .negative s

/-- D12.7, RD+ form 0x0D1. -/
def execD12_7_pos (s : State) : Result := dataCycle 0x0D1 12 7 .positive s

/-- D12.7, RD− form 0x0DE. -/
def execD12_7_neg (s : State) : Result := dataCycle 0x0DE 12 7 .negative s

/-- D13.7, RD+ form 0x2C8. -/
def execD13_7_pos (s : State) : Result := dataCycle 0x2C8 13 7 .positive s

/-- D13.7, RD− form 0x2CE. -/
def execD13_7_neg (s : State) : Result := dataCycle 0x2CE 13 7 .negative s

/-- D14.7, RD+ form 0x1C8. -/
def execD14_7_pos (s : State) : Result := dataCycle 0x1C8 14 7 .positive s

/-- D14.7, RD− form 0x1CE. -/
def execD14_7_neg (s : State) : Result := dataCycle 0x1CE 14 7 .negative s

/-- D15.7, RD+ form 0x28E. -/
def execD15_7_pos (s : State) : Result := dataCycle 0x28E 15 7 .positive s

/-- D15.7, RD− form 0x171. -/
def execD15_7_neg (s : State) : Result := dataCycle 0x171 15 7 .negative s

/-- D16.7, RD+ form 0x24E. -/
def execD16_7_pos (s : State) : Result := dataCycle 0x24E 16 7 .positive s

/-- D16.7, RD− form 0x1B1. -/
def execD16_7_neg (s : State) : Result := dataCycle 0x1B1 16 7 .negative s

/-- D17.7, RD+ form 0x231. -/
def execD17_7_pos (s : State) : Result := dataCycle 0x231 17 7 .positive s

/-- D17.7, RD− form 0x237. -/
def execD17_7_neg (s : State) : Result := dataCycle 0x237 17 7 .negative s

/-- D18.7, RD+ form 0x131. -/
def execD18_7_pos (s : State) : Result := dataCycle 0x131 18 7 .positive s

/-- D18.7, RD− form 0x137. -/
def execD18_7_neg (s : State) : Result := dataCycle 0x137 18 7 .negative s

/-- D19.7, RD+ form 0x321. -/
def execD19_7_pos (s : State) : Result := dataCycle 0x321 19 7 .positive s

/-- D19.7, RD− form 0x32E. -/
def execD19_7_neg (s : State) : Result := dataCycle 0x32E 19 7 .negative s

/-- D20.7, RD+ form 0x0B1. -/
def execD20_7_pos (s : State) : Result := dataCycle 0x0B1 20 7 .positive s

/-- D20.7, RD− form 0x0B7. -/
def execD20_7_neg (s : State) : Result := dataCycle 0x0B7 20 7 .negative s

/-- D21.7, RD+ form 0x2A1. -/
def execD21_7_pos (s : State) : Result := dataCycle 0x2A1 21 7 .positive s

/-- D21.7, RD− form 0x2AE. -/
def execD21_7_neg (s : State) : Result := dataCycle 0x2AE 21 7 .negative s

/-- D22.7, RD+ form 0x1A1. -/
def execD22_7_pos (s : State) : Result := dataCycle 0x1A1 22 7 .positive s

/-- D22.7, RD− form 0x1AE. -/
def execD22_7_neg (s : State) : Result := dataCycle 0x1AE 22 7 .negative s

/-- D23.7, RD+ form 0x05E. -/
def execD23_7_pos (s : State) : Result := dataCycle 0x05E 23 7 .positive s

/-- D23.7, RD− form 0x3A1. -/
def execD23_7_neg (s : State) : Result := dataCycle 0x3A1 23 7 .negative s

/-- D24.7, RD+ form 0x0CE. -/
def execD24_7_pos (s : State) : Result := dataCycle 0x0CE 24 7 .positive s

/-- D24.7, RD− form 0x331. -/
def execD24_7_neg (s : State) : Result := dataCycle 0x331 24 7 .negative s

/-- D25.7, RD+ form 0x261. -/
def execD25_7_pos (s : State) : Result := dataCycle 0x261 25 7 .positive s

/-- D25.7, RD− form 0x26E. -/
def execD25_7_neg (s : State) : Result := dataCycle 0x26E 25 7 .negative s

/-- D26.7, RD+ form 0x161. -/
def execD26_7_pos (s : State) : Result := dataCycle 0x161 26 7 .positive s

/-- D26.7, RD− form 0x16E. -/
def execD26_7_neg (s : State) : Result := dataCycle 0x16E 26 7 .negative s

/-- D27.7, RD+ form 0x09E. -/
def execD27_7_pos (s : State) : Result := dataCycle 0x09E 27 7 .positive s

/-- D27.7, RD− form 0x361. -/
def execD27_7_neg (s : State) : Result := dataCycle 0x361 27 7 .negative s

/-- D28.7, RD+ form 0x0E1. -/
def execD28_7_pos (s : State) : Result := dataCycle 0x0E1 28 7 .positive s

/-- D28.7, RD− form 0x0EE. -/
def execD28_7_neg (s : State) : Result := dataCycle 0x0EE 28 7 .negative s

/-- D29.7, RD+ form 0x11E. -/
def execD29_7_pos (s : State) : Result := dataCycle 0x11E 29 7 .positive s

/-- D29.7, RD− form 0x2E1. -/
def execD29_7_neg (s : State) : Result := dataCycle 0x2E1 29 7 .negative s

/-- D30.7, RD+ form 0x21E. -/
def execD30_7_pos (s : State) : Result := dataCycle 0x21E 30 7 .positive s

/-- D30.7, RD− form 0x1E1. -/
def execD30_7_neg (s : State) : Result := dataCycle 0x1E1 30 7 .negative s

/-- D31.7, RD+ form 0x14E. -/
def execD31_7_pos (s : State) : Result := dataCycle 0x14E 31 7 .positive s

/-- D31.7, RD− form 0x2B1. -/
def execD31_7_neg (s : State) : Result := dataCycle 0x2B1 31 7 .negative s

end Sys2Proof.Machine
end

