-- ==== Sys2Proof/Machine/Miss.lean ====
section
/-! DEFINITION. The meaning of the default row INVALID: the decode cycle of 45_decode_run.md R123 on
a codeword that misses the table (42_codeword_lookup_table.md R93). -/

namespace Sys2Proof.Machine

/-- A codeword that is not in the table: an Error symbol with the fallback fields of R93, and
decoding goes on (R54). -/
def execInvalid (w : Codeword) (s : State) : Result := decodeCycle w .miss s

end Sys2Proof.Machine
end

