-- ==== Sys2Proof/Machine/Dispatch.lean ====
section
/-! DEFINITION. `exec`: one arm per constructor of `Instr`, each one call of that codeword's meaning. -/

namespace Sys2Proof.Machine

def exec (i : Instr) (s : State) : Host.Outcome State Fault Refusal :=
  match i with
  | .d0_0_pos => Sys2Proof.Machine.execD0_0_pos s
  | .d0_0_neg => Sys2Proof.Machine.execD0_0_neg s
  | .d1_0_pos => Sys2Proof.Machine.execD1_0_pos s
  | .d1_0_neg => Sys2Proof.Machine.execD1_0_neg s
  | .d2_0_pos => Sys2Proof.Machine.execD2_0_pos s
  | .d2_0_neg => Sys2Proof.Machine.execD2_0_neg s
  | .d3_0_pos => Sys2Proof.Machine.execD3_0_pos s
  | .d3_0_neg => Sys2Proof.Machine.execD3_0_neg s
  | .d4_0_pos => Sys2Proof.Machine.execD4_0_pos s
  | .d4_0_neg => Sys2Proof.Machine.execD4_0_neg s
  | .d5_0_pos => Sys2Proof.Machine.execD5_0_pos s
  | .d5_0_neg => Sys2Proof.Machine.execD5_0_neg s
  | .d6_0_pos => Sys2Proof.Machine.execD6_0_pos s
  | .d6_0_neg => Sys2Proof.Machine.execD6_0_neg s
  | .d7_0_pos => Sys2Proof.Machine.execD7_0_pos s
  | .d7_0_neg => Sys2Proof.Machine.execD7_0_neg s
  | .d8_0_pos => Sys2Proof.Machine.execD8_0_pos s
  | .d8_0_neg => Sys2Proof.Machine.execD8_0_neg s
  | .d9_0_pos => Sys2Proof.Machine.execD9_0_pos s
  | .d9_0_neg => Sys2Proof.Machine.execD9_0_neg s
  | .d10_0_pos => Sys2Proof.Machine.execD10_0_pos s
  | .d10_0_neg => Sys2Proof.Machine.execD10_0_neg s
  | .d11_0_pos => Sys2Proof.Machine.execD11_0_pos s
  | .d11_0_neg => Sys2Proof.Machine.execD11_0_neg s
  | .d12_0_pos => Sys2Proof.Machine.execD12_0_pos s
  | .d12_0_neg => Sys2Proof.Machine.execD12_0_neg s
  | .d13_0_pos => Sys2Proof.Machine.execD13_0_pos s
  | .d13_0_neg => Sys2Proof.Machine.execD13_0_neg s
  | .d14_0_pos => Sys2Proof.Machine.execD14_0_pos s
  | .d14_0_neg => Sys2Proof.Machine.execD14_0_neg s
  | .d15_0_pos => Sys2Proof.Machine.execD15_0_pos s
  | .d15_0_neg => Sys2Proof.Machine.execD15_0_neg s
  | .d16_0_pos => Sys2Proof.Machine.execD16_0_pos s
  | .d16_0_neg => Sys2Proof.Machine.execD16_0_neg s
  | .d17_0_pos => Sys2Proof.Machine.execD17_0_pos s
  | .d17_0_neg => Sys2Proof.Machine.execD17_0_neg s
  | .d18_0_pos => Sys2Proof.Machine.execD18_0_pos s
  | .d18_0_neg => Sys2Proof.Machine.execD18_0_neg s
  | .d19_0_pos => Sys2Proof.Machine.execD19_0_pos s
  | .d19_0_neg => Sys2Proof.Machine.execD19_0_neg s
  | .d20_0_pos => Sys2Proof.Machine.execD20_0_pos s
  | .d20_0_neg => Sys2Proof.Machine.execD20_0_neg s
  | .d21_0_pos => Sys2Proof.Machine.execD21_0_pos s
  | .d21_0_neg => Sys2Proof.Machine.execD21_0_neg s
  | .d22_0_pos => Sys2Proof.Machine.execD22_0_pos s
  | .d22_0_neg => Sys2Proof.Machine.execD22_0_neg s
  | .d23_0_pos => Sys2Proof.Machine.execD23_0_pos s
  | .d23_0_neg => Sys2Proof.Machine.execD23_0_neg s
  | .d24_0_pos => Sys2Proof.Machine.execD24_0_pos s
  | .d24_0_neg => Sys2Proof.Machine.execD24_0_neg s
  | .d25_0_pos => Sys2Proof.Machine.execD25_0_pos s
  | .d25_0_neg => Sys2Proof.Machine.execD25_0_neg s
  | .d26_0_pos => Sys2Proof.Machine.execD26_0_pos s
  | .d26_0_neg => Sys2Proof.Machine.execD26_0_neg s
  | .d27_0_pos => Sys2Proof.Machine.execD27_0_pos s
  | .d27_0_neg => Sys2Proof.Machine.execD27_0_neg s
  | .d28_0_pos => Sys2Proof.Machine.execD28_0_pos s
  | .d28_0_neg => Sys2Proof.Machine.execD28_0_neg s
  | .d29_0_pos => Sys2Proof.Machine.execD29_0_pos s
  | .d29_0_neg => Sys2Proof.Machine.execD29_0_neg s
  | .d30_0_pos => Sys2Proof.Machine.execD30_0_pos s
  | .d30_0_neg => Sys2Proof.Machine.execD30_0_neg s
  | .d31_0_pos => Sys2Proof.Machine.execD31_0_pos s
  | .d31_0_neg => Sys2Proof.Machine.execD31_0_neg s
  | .d0_1_pos => Sys2Proof.Machine.execD0_1_pos s
  | .d0_1_neg => Sys2Proof.Machine.execD0_1_neg s
  | .d1_1_pos => Sys2Proof.Machine.execD1_1_pos s
  | .d1_1_neg => Sys2Proof.Machine.execD1_1_neg s
  | .d2_1_pos => Sys2Proof.Machine.execD2_1_pos s
  | .d2_1_neg => Sys2Proof.Machine.execD2_1_neg s
  | .d3_1 => Sys2Proof.Machine.execD3_1 s
  | .d4_1_pos => Sys2Proof.Machine.execD4_1_pos s
  | .d4_1_neg => Sys2Proof.Machine.execD4_1_neg s
  | .d5_1 => Sys2Proof.Machine.execD5_1 s
  | .d6_1 => Sys2Proof.Machine.execD6_1 s
  | .d7_1_pos => Sys2Proof.Machine.execD7_1_pos s
  | .d7_1_neg => Sys2Proof.Machine.execD7_1_neg s
  | .d8_1_pos => Sys2Proof.Machine.execD8_1_pos s
  | .d8_1_neg => Sys2Proof.Machine.execD8_1_neg s
  | .d9_1 => Sys2Proof.Machine.execD9_1 s
  | .d10_1 => Sys2Proof.Machine.execD10_1 s
  | .d11_1 => Sys2Proof.Machine.execD11_1 s
  | .d12_1 => Sys2Proof.Machine.execD12_1 s
  | .d13_1 => Sys2Proof.Machine.execD13_1 s
  | .d14_1 => Sys2Proof.Machine.execD14_1 s
  | .d15_1_pos => Sys2Proof.Machine.execD15_1_pos s
  | .d15_1_neg => Sys2Proof.Machine.execD15_1_neg s
  | .d16_1_pos => Sys2Proof.Machine.execD16_1_pos s
  | .d16_1_neg => Sys2Proof.Machine.execD16_1_neg s
  | .d17_1 => Sys2Proof.Machine.execD17_1 s
  | .d18_1 => Sys2Proof.Machine.execD18_1 s
  | .d19_1 => Sys2Proof.Machine.execD19_1 s
  | .d20_1 => Sys2Proof.Machine.execD20_1 s
  | .d21_1 => Sys2Proof.Machine.execD21_1 s
  | .d22_1 => Sys2Proof.Machine.execD22_1 s
  | .d23_1_pos => Sys2Proof.Machine.execD23_1_pos s
  | .d23_1_neg => Sys2Proof.Machine.execD23_1_neg s
  | .d24_1_pos => Sys2Proof.Machine.execD24_1_pos s
  | .d24_1_neg => Sys2Proof.Machine.execD24_1_neg s
  | .d25_1 => Sys2Proof.Machine.execD25_1 s
  | .d26_1 => Sys2Proof.Machine.execD26_1 s
  | .d27_1_pos => Sys2Proof.Machine.execD27_1_pos s
  | .d27_1_neg => Sys2Proof.Machine.execD27_1_neg s
  | .d28_1 => Sys2Proof.Machine.execD28_1 s
  | .d29_1_pos => Sys2Proof.Machine.execD29_1_pos s
  | .d29_1_neg => Sys2Proof.Machine.execD29_1_neg s
  | .d30_1_pos => Sys2Proof.Machine.execD30_1_pos s
  | .d30_1_neg => Sys2Proof.Machine.execD30_1_neg s
  | .d31_1_pos => Sys2Proof.Machine.execD31_1_pos s
  | .d31_1_neg => Sys2Proof.Machine.execD31_1_neg s
  | .d0_2_pos => Sys2Proof.Machine.execD0_2_pos s
  | .d0_2_neg => Sys2Proof.Machine.execD0_2_neg s
  | .d1_2_pos => Sys2Proof.Machine.execD1_2_pos s
  | .d1_2_neg => Sys2Proof.Machine.execD1_2_neg s
  | .d2_2_pos => Sys2Proof.Machine.execD2_2_pos s
  | .d2_2_neg => Sys2Proof.Machine.execD2_2_neg s
  | .d3_2 => Sys2Proof.Machine.execD3_2 s
  | .d4_2_pos => Sys2Proof.Machine.execD4_2_pos s
  | .d4_2_neg => Sys2Proof.Machine.execD4_2_neg s
  | .d5_2 => Sys2Proof.Machine.execD5_2 s
  | .d6_2 => Sys2Proof.Machine.execD6_2 s
  | .d7_2_pos => Sys2Proof.Machine.execD7_2_pos s
  | .d7_2_neg => Sys2Proof.Machine.execD7_2_neg s
  | .d8_2_pos => Sys2Proof.Machine.execD8_2_pos s
  | .d8_2_neg => Sys2Proof.Machine.execD8_2_neg s
  | .d9_2 => Sys2Proof.Machine.execD9_2 s
  | .d10_2 => Sys2Proof.Machine.execD10_2 s
  | .d11_2 => Sys2Proof.Machine.execD11_2 s
  | .d12_2 => Sys2Proof.Machine.execD12_2 s
  | .d13_2 => Sys2Proof.Machine.execD13_2 s
  | .d14_2 => Sys2Proof.Machine.execD14_2 s
  | .d15_2_pos => Sys2Proof.Machine.execD15_2_pos s
  | .d15_2_neg => Sys2Proof.Machine.execD15_2_neg s
  | .d16_2_pos => Sys2Proof.Machine.execD16_2_pos s
  | .d16_2_neg => Sys2Proof.Machine.execD16_2_neg s
  | .d17_2 => Sys2Proof.Machine.execD17_2 s
  | .d18_2 => Sys2Proof.Machine.execD18_2 s
  | .d19_2 => Sys2Proof.Machine.execD19_2 s
  | .d20_2 => Sys2Proof.Machine.execD20_2 s
  | .d21_2 => Sys2Proof.Machine.execD21_2 s
  | .d22_2 => Sys2Proof.Machine.execD22_2 s
  | .d23_2_pos => Sys2Proof.Machine.execD23_2_pos s
  | .d23_2_neg => Sys2Proof.Machine.execD23_2_neg s
  | .d24_2_pos => Sys2Proof.Machine.execD24_2_pos s
  | .d24_2_neg => Sys2Proof.Machine.execD24_2_neg s
  | .d25_2 => Sys2Proof.Machine.execD25_2 s
  | .d26_2 => Sys2Proof.Machine.execD26_2 s
  | .d27_2_pos => Sys2Proof.Machine.execD27_2_pos s
  | .d27_2_neg => Sys2Proof.Machine.execD27_2_neg s
  | .d28_2 => Sys2Proof.Machine.execD28_2 s
  | .d29_2_pos => Sys2Proof.Machine.execD29_2_pos s
  | .d29_2_neg => Sys2Proof.Machine.execD29_2_neg s
  | .d30_2_pos => Sys2Proof.Machine.execD30_2_pos s
  | .d30_2_neg => Sys2Proof.Machine.execD30_2_neg s
  | .d31_2_pos => Sys2Proof.Machine.execD31_2_pos s
  | .d31_2_neg => Sys2Proof.Machine.execD31_2_neg s
  | .d0_3_pos => Sys2Proof.Machine.execD0_3_pos s
  | .d0_3_neg => Sys2Proof.Machine.execD0_3_neg s
  | .d1_3_pos => Sys2Proof.Machine.execD1_3_pos s
  | .d1_3_neg => Sys2Proof.Machine.execD1_3_neg s
  | .d2_3_pos => Sys2Proof.Machine.execD2_3_pos s
  | .d2_3_neg => Sys2Proof.Machine.execD2_3_neg s
  | .d3_3_pos => Sys2Proof.Machine.execD3_3_pos s
  | .d3_3_neg => Sys2Proof.Machine.execD3_3_neg s
  | .d4_3_pos => Sys2Proof.Machine.execD4_3_pos s
  | .d4_3_neg => Sys2Proof.Machine.execD4_3_neg s
  | .d5_3_pos => Sys2Proof.Machine.execD5_3_pos s
  | .d5_3_neg => Sys2Proof.Machine.execD5_3_neg s
  | .d6_3_pos => Sys2Proof.Machine.execD6_3_pos s
  | .d6_3_neg => Sys2Proof.Machine.execD6_3_neg s
  | .d7_3_pos => Sys2Proof.Machine.execD7_3_pos s
  | .d7_3_neg => Sys2Proof.Machine.execD7_3_neg s
  | .d8_3_pos => Sys2Proof.Machine.execD8_3_pos s
  | .d8_3_neg => Sys2Proof.Machine.execD8_3_neg s
  | .d9_3_pos => Sys2Proof.Machine.execD9_3_pos s
  | .d9_3_neg => Sys2Proof.Machine.execD9_3_neg s
  | .d10_3_pos => Sys2Proof.Machine.execD10_3_pos s
  | .d10_3_neg => Sys2Proof.Machine.execD10_3_neg s
  | .d11_3_pos => Sys2Proof.Machine.execD11_3_pos s
  | .d11_3_neg => Sys2Proof.Machine.execD11_3_neg s
  | .d12_3_pos => Sys2Proof.Machine.execD12_3_pos s
  | .d12_3_neg => Sys2Proof.Machine.execD12_3_neg s
  | .d13_3_pos => Sys2Proof.Machine.execD13_3_pos s
  | .d13_3_neg => Sys2Proof.Machine.execD13_3_neg s
  | .d14_3_pos => Sys2Proof.Machine.execD14_3_pos s
  | .d14_3_neg => Sys2Proof.Machine.execD14_3_neg s
  | .d15_3_pos => Sys2Proof.Machine.execD15_3_pos s
  | .d15_3_neg => Sys2Proof.Machine.execD15_3_neg s
  | .d16_3_pos => Sys2Proof.Machine.execD16_3_pos s
  | .d16_3_neg => Sys2Proof.Machine.execD16_3_neg s
  | .d17_3_pos => Sys2Proof.Machine.execD17_3_pos s
  | .d17_3_neg => Sys2Proof.Machine.execD17_3_neg s
  | .d18_3_pos => Sys2Proof.Machine.execD18_3_pos s
  | .d18_3_neg => Sys2Proof.Machine.execD18_3_neg s
  | .d19_3_pos => Sys2Proof.Machine.execD19_3_pos s
  | .d19_3_neg => Sys2Proof.Machine.execD19_3_neg s
  | .d20_3_pos => Sys2Proof.Machine.execD20_3_pos s
  | .d20_3_neg => Sys2Proof.Machine.execD20_3_neg s
  | .d21_3_pos => Sys2Proof.Machine.execD21_3_pos s
  | .d21_3_neg => Sys2Proof.Machine.execD21_3_neg s
  | .d22_3_pos => Sys2Proof.Machine.execD22_3_pos s
  | .d22_3_neg => Sys2Proof.Machine.execD22_3_neg s
  | .d23_3_pos => Sys2Proof.Machine.execD23_3_pos s
  | .d23_3_neg => Sys2Proof.Machine.execD23_3_neg s
  | .d24_3_pos => Sys2Proof.Machine.execD24_3_pos s
  | .d24_3_neg => Sys2Proof.Machine.execD24_3_neg s
  | .d25_3_pos => Sys2Proof.Machine.execD25_3_pos s
  | .d25_3_neg => Sys2Proof.Machine.execD25_3_neg s
  | .d26_3_pos => Sys2Proof.Machine.execD26_3_pos s
  | .d26_3_neg => Sys2Proof.Machine.execD26_3_neg s
  | .d27_3_pos => Sys2Proof.Machine.execD27_3_pos s
  | .d27_3_neg => Sys2Proof.Machine.execD27_3_neg s
  | .d28_3_pos => Sys2Proof.Machine.execD28_3_pos s
  | .d28_3_neg => Sys2Proof.Machine.execD28_3_neg s
  | .d29_3_pos => Sys2Proof.Machine.execD29_3_pos s
  | .d29_3_neg => Sys2Proof.Machine.execD29_3_neg s
  | .d30_3_pos => Sys2Proof.Machine.execD30_3_pos s
  | .d30_3_neg => Sys2Proof.Machine.execD30_3_neg s
  | .d31_3_pos => Sys2Proof.Machine.execD31_3_pos s
  | .d31_3_neg => Sys2Proof.Machine.execD31_3_neg s
  | .d0_4_pos => Sys2Proof.Machine.execD0_4_pos s
  | .d0_4_neg => Sys2Proof.Machine.execD0_4_neg s
  | .d1_4_pos => Sys2Proof.Machine.execD1_4_pos s
  | .d1_4_neg => Sys2Proof.Machine.execD1_4_neg s
  | .d2_4_pos => Sys2Proof.Machine.execD2_4_pos s
  | .d2_4_neg => Sys2Proof.Machine.execD2_4_neg s
  | .d3_4_pos => Sys2Proof.Machine.execD3_4_pos s
  | .d3_4_neg => Sys2Proof.Machine.execD3_4_neg s
  | .d4_4_pos => Sys2Proof.Machine.execD4_4_pos s
  | .d4_4_neg => Sys2Proof.Machine.execD4_4_neg s
  | .d5_4_pos => Sys2Proof.Machine.execD5_4_pos s
  | .d5_4_neg => Sys2Proof.Machine.execD5_4_neg s
  | .d6_4_pos => Sys2Proof.Machine.execD6_4_pos s
  | .d6_4_neg => Sys2Proof.Machine.execD6_4_neg s
  | .d7_4_pos => Sys2Proof.Machine.execD7_4_pos s
  | .d7_4_neg => Sys2Proof.Machine.execD7_4_neg s
  | .d8_4_pos => Sys2Proof.Machine.execD8_4_pos s
  | .d8_4_neg => Sys2Proof.Machine.execD8_4_neg s
  | .d9_4_pos => Sys2Proof.Machine.execD9_4_pos s
  | .d9_4_neg => Sys2Proof.Machine.execD9_4_neg s
  | .d10_4_pos => Sys2Proof.Machine.execD10_4_pos s
  | .d10_4_neg => Sys2Proof.Machine.execD10_4_neg s
  | .d11_4_pos => Sys2Proof.Machine.execD11_4_pos s
  | .d11_4_neg => Sys2Proof.Machine.execD11_4_neg s
  | .d12_4_pos => Sys2Proof.Machine.execD12_4_pos s
  | .d12_4_neg => Sys2Proof.Machine.execD12_4_neg s
  | .d13_4_pos => Sys2Proof.Machine.execD13_4_pos s
  | .d13_4_neg => Sys2Proof.Machine.execD13_4_neg s
  | .d14_4_pos => Sys2Proof.Machine.execD14_4_pos s
  | .d14_4_neg => Sys2Proof.Machine.execD14_4_neg s
  | .d15_4_pos => Sys2Proof.Machine.execD15_4_pos s
  | .d15_4_neg => Sys2Proof.Machine.execD15_4_neg s
  | .d16_4_pos => Sys2Proof.Machine.execD16_4_pos s
  | .d16_4_neg => Sys2Proof.Machine.execD16_4_neg s
  | .d17_4_pos => Sys2Proof.Machine.execD17_4_pos s
  | .d17_4_neg => Sys2Proof.Machine.execD17_4_neg s
  | .d18_4_pos => Sys2Proof.Machine.execD18_4_pos s
  | .d18_4_neg => Sys2Proof.Machine.execD18_4_neg s
  | .d19_4_pos => Sys2Proof.Machine.execD19_4_pos s
  | .d19_4_neg => Sys2Proof.Machine.execD19_4_neg s
  | .d20_4_pos => Sys2Proof.Machine.execD20_4_pos s
  | .d20_4_neg => Sys2Proof.Machine.execD20_4_neg s
  | .d21_4_pos => Sys2Proof.Machine.execD21_4_pos s
  | .d21_4_neg => Sys2Proof.Machine.execD21_4_neg s
  | .d22_4_pos => Sys2Proof.Machine.execD22_4_pos s
  | .d22_4_neg => Sys2Proof.Machine.execD22_4_neg s
  | .d23_4_pos => Sys2Proof.Machine.execD23_4_pos s
  | .d23_4_neg => Sys2Proof.Machine.execD23_4_neg s
  | .d24_4_pos => Sys2Proof.Machine.execD24_4_pos s
  | .d24_4_neg => Sys2Proof.Machine.execD24_4_neg s
  | .d25_4_pos => Sys2Proof.Machine.execD25_4_pos s
  | .d25_4_neg => Sys2Proof.Machine.execD25_4_neg s
  | .d26_4_pos => Sys2Proof.Machine.execD26_4_pos s
  | .d26_4_neg => Sys2Proof.Machine.execD26_4_neg s
  | .d27_4_pos => Sys2Proof.Machine.execD27_4_pos s
  | .d27_4_neg => Sys2Proof.Machine.execD27_4_neg s
  | .d28_4_pos => Sys2Proof.Machine.execD28_4_pos s
  | .d28_4_neg => Sys2Proof.Machine.execD28_4_neg s
  | .d29_4_pos => Sys2Proof.Machine.execD29_4_pos s
  | .d29_4_neg => Sys2Proof.Machine.execD29_4_neg s
  | .d30_4_pos => Sys2Proof.Machine.execD30_4_pos s
  | .d30_4_neg => Sys2Proof.Machine.execD30_4_neg s
  | .d31_4_pos => Sys2Proof.Machine.execD31_4_pos s
  | .d31_4_neg => Sys2Proof.Machine.execD31_4_neg s
  | .d0_5_pos => Sys2Proof.Machine.execD0_5_pos s
  | .d0_5_neg => Sys2Proof.Machine.execD0_5_neg s
  | .d1_5_pos => Sys2Proof.Machine.execD1_5_pos s
  | .d1_5_neg => Sys2Proof.Machine.execD1_5_neg s
  | .d2_5_pos => Sys2Proof.Machine.execD2_5_pos s
  | .d2_5_neg => Sys2Proof.Machine.execD2_5_neg s
  | .d3_5 => Sys2Proof.Machine.execD3_5 s
  | .d4_5_pos => Sys2Proof.Machine.execD4_5_pos s
  | .d4_5_neg => Sys2Proof.Machine.execD4_5_neg s
  | .d5_5 => Sys2Proof.Machine.execD5_5 s
  | .d6_5 => Sys2Proof.Machine.execD6_5 s
  | .d7_5_pos => Sys2Proof.Machine.execD7_5_pos s
  | .d7_5_neg => Sys2Proof.Machine.execD7_5_neg s
  | .d8_5_pos => Sys2Proof.Machine.execD8_5_pos s
  | .d8_5_neg => Sys2Proof.Machine.execD8_5_neg s
  | .d9_5 => Sys2Proof.Machine.execD9_5 s
  | .d10_5 => Sys2Proof.Machine.execD10_5 s
  | .d11_5 => Sys2Proof.Machine.execD11_5 s
  | .d12_5 => Sys2Proof.Machine.execD12_5 s
  | .d13_5 => Sys2Proof.Machine.execD13_5 s
  | .d14_5 => Sys2Proof.Machine.execD14_5 s
  | .d15_5_pos => Sys2Proof.Machine.execD15_5_pos s
  | .d15_5_neg => Sys2Proof.Machine.execD15_5_neg s
  | .d16_5_pos => Sys2Proof.Machine.execD16_5_pos s
  | .d16_5_neg => Sys2Proof.Machine.execD16_5_neg s
  | .d17_5 => Sys2Proof.Machine.execD17_5 s
  | .d18_5 => Sys2Proof.Machine.execD18_5 s
  | .d19_5 => Sys2Proof.Machine.execD19_5 s
  | .d20_5 => Sys2Proof.Machine.execD20_5 s
  | .d21_5 => Sys2Proof.Machine.execD21_5 s
  | .d22_5 => Sys2Proof.Machine.execD22_5 s
  | .d23_5_pos => Sys2Proof.Machine.execD23_5_pos s
  | .d23_5_neg => Sys2Proof.Machine.execD23_5_neg s
  | .d24_5_pos => Sys2Proof.Machine.execD24_5_pos s
  | .d24_5_neg => Sys2Proof.Machine.execD24_5_neg s
  | .d25_5 => Sys2Proof.Machine.execD25_5 s
  | .d26_5 => Sys2Proof.Machine.execD26_5 s
  | .d27_5_pos => Sys2Proof.Machine.execD27_5_pos s
  | .d27_5_neg => Sys2Proof.Machine.execD27_5_neg s
  | .d28_5 => Sys2Proof.Machine.execD28_5 s
  | .d29_5_pos => Sys2Proof.Machine.execD29_5_pos s
  | .d29_5_neg => Sys2Proof.Machine.execD29_5_neg s
  | .d30_5_pos => Sys2Proof.Machine.execD30_5_pos s
  | .d30_5_neg => Sys2Proof.Machine.execD30_5_neg s
  | .d31_5_pos => Sys2Proof.Machine.execD31_5_pos s
  | .d31_5_neg => Sys2Proof.Machine.execD31_5_neg s
  | .d0_6_pos => Sys2Proof.Machine.execD0_6_pos s
  | .d0_6_neg => Sys2Proof.Machine.execD0_6_neg s
  | .d1_6_pos => Sys2Proof.Machine.execD1_6_pos s
  | .d1_6_neg => Sys2Proof.Machine.execD1_6_neg s
  | .d2_6_pos => Sys2Proof.Machine.execD2_6_pos s
  | .d2_6_neg => Sys2Proof.Machine.execD2_6_neg s
  | .d3_6 => Sys2Proof.Machine.execD3_6 s
  | .d4_6_pos => Sys2Proof.Machine.execD4_6_pos s
  | .d4_6_neg => Sys2Proof.Machine.execD4_6_neg s
  | .d5_6 => Sys2Proof.Machine.execD5_6 s
  | .d6_6 => Sys2Proof.Machine.execD6_6 s
  | .d7_6_pos => Sys2Proof.Machine.execD7_6_pos s
  | .d7_6_neg => Sys2Proof.Machine.execD7_6_neg s
  | .d8_6_pos => Sys2Proof.Machine.execD8_6_pos s
  | .d8_6_neg => Sys2Proof.Machine.execD8_6_neg s
  | .d9_6 => Sys2Proof.Machine.execD9_6 s
  | .d10_6 => Sys2Proof.Machine.execD10_6 s
  | .d11_6 => Sys2Proof.Machine.execD11_6 s
  | .d12_6 => Sys2Proof.Machine.execD12_6 s
  | .d13_6 => Sys2Proof.Machine.execD13_6 s
  | .d14_6 => Sys2Proof.Machine.execD14_6 s
  | .d15_6_pos => Sys2Proof.Machine.execD15_6_pos s
  | .d15_6_neg => Sys2Proof.Machine.execD15_6_neg s
  | .d16_6_pos => Sys2Proof.Machine.execD16_6_pos s
  | .d16_6_neg => Sys2Proof.Machine.execD16_6_neg s
  | .d17_6 => Sys2Proof.Machine.execD17_6 s
  | .d18_6 => Sys2Proof.Machine.execD18_6 s
  | .d19_6 => Sys2Proof.Machine.execD19_6 s
  | .d20_6 => Sys2Proof.Machine.execD20_6 s
  | .d21_6 => Sys2Proof.Machine.execD21_6 s
  | .d22_6 => Sys2Proof.Machine.execD22_6 s
  | .d23_6_pos => Sys2Proof.Machine.execD23_6_pos s
  | .d23_6_neg => Sys2Proof.Machine.execD23_6_neg s
  | .d24_6_pos => Sys2Proof.Machine.execD24_6_pos s
  | .d24_6_neg => Sys2Proof.Machine.execD24_6_neg s
  | .d25_6 => Sys2Proof.Machine.execD25_6 s
  | .d26_6 => Sys2Proof.Machine.execD26_6 s
  | .d27_6_pos => Sys2Proof.Machine.execD27_6_pos s
  | .d27_6_neg => Sys2Proof.Machine.execD27_6_neg s
  | .d28_6 => Sys2Proof.Machine.execD28_6 s
  | .d29_6_pos => Sys2Proof.Machine.execD29_6_pos s
  | .d29_6_neg => Sys2Proof.Machine.execD29_6_neg s
  | .d30_6_pos => Sys2Proof.Machine.execD30_6_pos s
  | .d30_6_neg => Sys2Proof.Machine.execD30_6_neg s
  | .d31_6_pos => Sys2Proof.Machine.execD31_6_pos s
  | .d31_6_neg => Sys2Proof.Machine.execD31_6_neg s
  | .d0_7_pos => Sys2Proof.Machine.execD0_7_pos s
  | .d0_7_neg => Sys2Proof.Machine.execD0_7_neg s
  | .d1_7_pos => Sys2Proof.Machine.execD1_7_pos s
  | .d1_7_neg => Sys2Proof.Machine.execD1_7_neg s
  | .d2_7_pos => Sys2Proof.Machine.execD2_7_pos s
  | .d2_7_neg => Sys2Proof.Machine.execD2_7_neg s
  | .d3_7_pos => Sys2Proof.Machine.execD3_7_pos s
  | .d3_7_neg => Sys2Proof.Machine.execD3_7_neg s
  | .d4_7_pos => Sys2Proof.Machine.execD4_7_pos s
  | .d4_7_neg => Sys2Proof.Machine.execD4_7_neg s
  | .d5_7_pos => Sys2Proof.Machine.execD5_7_pos s
  | .d5_7_neg => Sys2Proof.Machine.execD5_7_neg s
  | .d6_7_pos => Sys2Proof.Machine.execD6_7_pos s
  | .d6_7_neg => Sys2Proof.Machine.execD6_7_neg s
  | .d7_7_pos => Sys2Proof.Machine.execD7_7_pos s
  | .d7_7_neg => Sys2Proof.Machine.execD7_7_neg s
  | .d8_7_pos => Sys2Proof.Machine.execD8_7_pos s
  | .d8_7_neg => Sys2Proof.Machine.execD8_7_neg s
  | .d9_7_pos => Sys2Proof.Machine.execD9_7_pos s
  | .d9_7_neg => Sys2Proof.Machine.execD9_7_neg s
  | .d10_7_pos => Sys2Proof.Machine.execD10_7_pos s
  | .d10_7_neg => Sys2Proof.Machine.execD10_7_neg s
  | .d11_7_pos => Sys2Proof.Machine.execD11_7_pos s
  | .d11_7_neg => Sys2Proof.Machine.execD11_7_neg s
  | .d12_7_pos => Sys2Proof.Machine.execD12_7_pos s
  | .d12_7_neg => Sys2Proof.Machine.execD12_7_neg s
  | .d13_7_pos => Sys2Proof.Machine.execD13_7_pos s
  | .d13_7_neg => Sys2Proof.Machine.execD13_7_neg s
  | .d14_7_pos => Sys2Proof.Machine.execD14_7_pos s
  | .d14_7_neg => Sys2Proof.Machine.execD14_7_neg s
  | .d15_7_pos => Sys2Proof.Machine.execD15_7_pos s
  | .d15_7_neg => Sys2Proof.Machine.execD15_7_neg s
  | .d16_7_pos => Sys2Proof.Machine.execD16_7_pos s
  | .d16_7_neg => Sys2Proof.Machine.execD16_7_neg s
  | .d17_7_pos => Sys2Proof.Machine.execD17_7_pos s
  | .d17_7_neg => Sys2Proof.Machine.execD17_7_neg s
  | .d18_7_pos => Sys2Proof.Machine.execD18_7_pos s
  | .d18_7_neg => Sys2Proof.Machine.execD18_7_neg s
  | .d19_7_pos => Sys2Proof.Machine.execD19_7_pos s
  | .d19_7_neg => Sys2Proof.Machine.execD19_7_neg s
  | .d20_7_pos => Sys2Proof.Machine.execD20_7_pos s
  | .d20_7_neg => Sys2Proof.Machine.execD20_7_neg s
  | .d21_7_pos => Sys2Proof.Machine.execD21_7_pos s
  | .d21_7_neg => Sys2Proof.Machine.execD21_7_neg s
  | .d22_7_pos => Sys2Proof.Machine.execD22_7_pos s
  | .d22_7_neg => Sys2Proof.Machine.execD22_7_neg s
  | .d23_7_pos => Sys2Proof.Machine.execD23_7_pos s
  | .d23_7_neg => Sys2Proof.Machine.execD23_7_neg s
  | .d24_7_pos => Sys2Proof.Machine.execD24_7_pos s
  | .d24_7_neg => Sys2Proof.Machine.execD24_7_neg s
  | .d25_7_pos => Sys2Proof.Machine.execD25_7_pos s
  | .d25_7_neg => Sys2Proof.Machine.execD25_7_neg s
  | .d26_7_pos => Sys2Proof.Machine.execD26_7_pos s
  | .d26_7_neg => Sys2Proof.Machine.execD26_7_neg s
  | .d27_7_pos => Sys2Proof.Machine.execD27_7_pos s
  | .d27_7_neg => Sys2Proof.Machine.execD27_7_neg s
  | .d28_7_pos => Sys2Proof.Machine.execD28_7_pos s
  | .d28_7_neg => Sys2Proof.Machine.execD28_7_neg s
  | .d29_7_pos => Sys2Proof.Machine.execD29_7_pos s
  | .d29_7_neg => Sys2Proof.Machine.execD29_7_neg s
  | .d30_7_pos => Sys2Proof.Machine.execD30_7_pos s
  | .d30_7_neg => Sys2Proof.Machine.execD30_7_neg s
  | .d31_7_pos => Sys2Proof.Machine.execD31_7_pos s
  | .d31_7_neg => Sys2Proof.Machine.execD31_7_neg s
  | .k28_0_pos => Sys2Proof.Machine.execK28_0_pos s
  | .k28_0_neg => Sys2Proof.Machine.execK28_0_neg s
  | .k28_1_pos => Sys2Proof.Machine.execK28_1_pos s
  | .k28_1_neg => Sys2Proof.Machine.execK28_1_neg s
  | .k28_2_pos => Sys2Proof.Machine.execK28_2_pos s
  | .k28_2_neg => Sys2Proof.Machine.execK28_2_neg s
  | .k28_3_pos => Sys2Proof.Machine.execK28_3_pos s
  | .k28_3_neg => Sys2Proof.Machine.execK28_3_neg s
  | .k28_4_pos => Sys2Proof.Machine.execK28_4_pos s
  | .k28_4_neg => Sys2Proof.Machine.execK28_4_neg s
  | .k28_5_pos => Sys2Proof.Machine.execK28_5_pos s
  | .k28_5_neg => Sys2Proof.Machine.execK28_5_neg s
  | .k28_6_pos => Sys2Proof.Machine.execK28_6_pos s
  | .k28_6_neg => Sys2Proof.Machine.execK28_6_neg s
  | .k23_7_pos => Sys2Proof.Machine.execK23_7_pos s
  | .k23_7_neg => Sys2Proof.Machine.execK23_7_neg s
  | .k27_7_pos => Sys2Proof.Machine.execK27_7_pos s
  | .k27_7_neg => Sys2Proof.Machine.execK27_7_neg s
  | .k28_7_pos => Sys2Proof.Machine.execK28_7_pos s
  | .k28_7_neg => Sys2Proof.Machine.execK28_7_neg s
  | .k29_7_pos => Sys2Proof.Machine.execK29_7_pos s
  | .k29_7_neg => Sys2Proof.Machine.execK29_7_neg s
  | .k30_7_pos => Sys2Proof.Machine.execK30_7_pos s
  | .k30_7_neg => Sys2Proof.Machine.execK30_7_neg s
  | .invalid w => Sys2Proof.Machine.execInvalid w s

end Sys2Proof.Machine
end

