-- ==== Sys2Proof/Machine/Channel.lean ====
section
/-! DEFINITION. The captured channel and its six primitives (40_bit_sampler_cdr.md R60 to R66). -/

namespace Sys2Proof.Machine

/-- The transitions rise strictly. -/
def risingFrom : SampleIdx → List SampleIdx → Bool
  | _, [] => true
  | t, u :: us => decide (t < u) && risingFrom u us

/-- A waveform as R60 has it: `T` strictly increasing with `t1 ≥ 1`. -/
def Waveform.wf (c : Waveform) : Bool := risingFrom 0 c.transitions

/-- How many transitions lie at or before `i`. -/
def transitionsUpTo (i : SampleIdx) : List SampleIdx → Nat
  | [] => 0
  | t :: ts => (if t ≤ i then 1 else 0) + transitionsUpTo i ts

/-- `level(s) = L0 XOR (count of t in T with t ≤ s) mod 2` (R60). -/
def levelAt (c : Waveform) (i : SampleIdx) : Bool :=
  c.level0 ^^ (transitionsUpTo i c.transitions % 2 == 1)

/-- `min { t in T | t > cur }` (R64), if there is one. -/
def nextTransition (cur : SampleIdx) : List SampleIdx → Option SampleIdx
  | [] => none
  | t :: ts =>
    match nextTransition cur ts with
    | none => if cur < t then some t else none
    | some u => if cur < t ∧ t < u then some t else some u

/-- `Chan.level()` (R61). -/
def chanLevel (s : State) : Bool := levelAt s.chan s.cur

/-- `Chan.index()` (R66). -/
def chanIndex (s : State) : SampleIdx := s.cur

/-- `Chan.wouldCross(n)` (R63): some transition lies in `(CUR, CUR + n]`. -/
def chanWouldCross (n : Nat) (s : State) : Bool :=
  s.chan.transitions.any fun t => decide (s.cur < t) && decide (t.toNat ≤ s.cur.toNat + n)

/-- `Chan.more()` (R65): some transition lies after `CUR`. -/
def chanMore (s : State) : Bool := s.chan.transitions.any fun t => decide (s.cur < t)

/-- `Chan.advance(n)` (R62). -/
def chanAdvance (n : Nat) (s : State) : Except ModelFault State :=
  if s.cur.toNat + n < indexLimit then .ok { s with cur := s.cur + BitVec.ofNat 64 n }
  else .error (.cursorOverflow s.cur n)

/-- `Chan.toNextTransition()` (R64). -/
def chanToNextTransition (s : State) : Except ModelFault State :=
  match nextTransition s.cur s.chan.transitions with
  | some t => .ok { s with cur := t }
  | none => .error (.channelNoTransition s.cur)

end Sys2Proof.Machine
end

