-- ==== Sys2Proof/Machine/Run.lean ====
section
/-! DEFINITION. The decode run (45_decode_run.md): START and the host's other moves, ACQUIRE and
BITSTEP (40_bit_sampler_cdr.md R68 to R71), the symbol synchronizer (41_symbol_synchronizer.md R80
to R84), and `fetch`, what a step does up to the codeword it decodes. -/

namespace Sys2Proof.Machine

/-- `floor(3·SR/(2·BR) + 1/2)` in exact arithmetic (R14, decision D10). -/
def exactStc (sampleRate bitRate : Nat) : Nat := (3 * sampleRate + bitRate) / (2 * bitRate)

/-- The derived constants START computes (R14): each register holds its formula wherever 64 bits hold it,
and the bits beside `STC` and `ICO` say where 64 do not, so that the numbers obey the laws of R67 for
every legal configuration (log entry 7). -/
def deriveTiming (c : CfgRegs) (p : CenterOffset) : Timing :=
  let spb := c.sampleRate.toNat / c.bitRate.toNat
  let stc := exactStc c.sampleRate.toNat c.bitRate.toNat
  { spb := BitVec.ofNat 64 spb
    stc := BitVec.ofNat 64 stc
    stcOver := decide (indexLimit ≤ stc)
    ofs := BitVec.ofNat 64 (stc - spb)
    half := BitVec.ofNat 64 (spb / 2)
    ico := match p with
      | .stcMinusSpb => BitVec.ofNat 64 (stc - spb)
      | .stc => BitVec.ofNat 64 stc
    icoOver := match p with
      | .stcMinusSpb => false
      | .stc => decide (indexLimit ≤ stc) }

/-- The configuration START accepts (R10, R11, R121). -/
def configLegal (c : CfgRegs) : Bool :=
  decide (1 ≤ c.bitRate.toNat) && decide (c.bitRate.toNat ≤ 10000000) &&
    decide (4 * c.bitRate.toNat ≤ c.sampleRate.toNat)

/-- The run context as START writes it (R28, R150), with `PHASE` Acquire. -/
def resetContext (s : State) : State :=
  { s with
    tim := deriveTiming s.cfg s.params.initialCenter
    phase := .acquire
    cur := s.params.captureStart
    win := 0
    wlen := 0
    idxq := []
    sync := .unsynchronized
    rd := .negative
    first := true
    pending := none
    out := [] }

/-- `PHASE ∈ {Idle, Done}`: where the host may configure and START (R121, R127). -/
def atRest (s : State) : Bool := s.phase == .idle || s.phase == .done

/-- START (R121). Not enabled during a run, where it has no effect (R127). -/
def start (s : State) : Result :=
  if atRest s then
    if configLegal s.cfg then .next (resetContext s)
    else raise (.configIllegal s.cfg.bitRate s.cfg.sampleRate) s
  else .next s

/-- STOP (R125). Not enabled outside a run, where it has no effect (R127). -/
def stop (s : State) : Result := if atRest s then .next s else .next (endRun s)

/-- A write of the configuration registers, enabled while no run is active (R127). -/
def configure (c : CfgRegs) (s : State) : Result :=
  if atRest s then .next { s with cfg := c } else .next s

/-- Binding a waveform to the channel port, enabled while no run is active. One that is not as R60 has
it is no move (log entry 12). -/
def bindWaveform (c : Waveform) (s : State) : Result :=
  if atRest s && c.wf then .next { s with chan := c } else .next s

/-- ACQUIRE's moves of the cursor (R68), where `Chan.more()` holds. -/
def acquireMove (s : State) : Except ModelFault State :=
  match chanToNextTransition s with
  | .error f => .error f
  | .ok s1 =>
    match chanAdvance (icoNumber s1.tim) s1 with
    | .error f => .error f
    | .ok s2 => .ok { s2 with phase := .run }

/-- The free-running branch's move (R69). -/
def freeRunMove (s : State) : Except ModelFault State := chanAdvance s.tim.spb.toNat s

/-- The re-lock branch's moves (R70). -/
def relockMove (s : State) : Except ModelFault State :=
  match chanToNextTransition s with
  | .error f => .error f
  | .ok s1 => chanAdvance s1.tim.ofs.toNat s1

/-- The first part of `Lock()` (R83): a full window that is a comma synchronizes a hunting core. -/
def lockOnComma (s : State) : State :=
  if s.sync = .unsynchronized ∧ s.wlen = 10 ∧ isCommaPattern s.win then
    { s with sync := .synchronized }
  else s

/-- `PushBit(b, idx)` up to the decode cycle it may run (R72, R80, R81, R83). -/
def pushBit (s : State) : State :=
  lockOnComma (queueIn (chanIndex s) (shiftIn (chanLevel s) s))

/-- A decode cycle is due: the window is full and the core is synchronized (R83, R84). -/
def cycleDue (s : State) : Bool := s.wlen == 10 && s.sync == .synchronized

/-- A bit step that began at `base`, once the sampler has moved the cursor (R72, R122): a fault of the
sampler, or the bit pushed, and then a decode cycle or nothing more (R82). -/
def sampleBit (base : State) (moved : Except ModelFault State) : Fetched :=
  match moved with
  | .error f => .settled (raise f base)
  | .ok s1 => if cycleDue (pushBit s1) then .window base (pushBit s1) else .settled (.next (pushBit s1))

/-- The core's one enabled step (R122) up to its decode cycle. In Idle and Done none is enabled, and
the core keeps its state (R126, R140; log entry 5). -/
def coreFetch (s : State) : Fetched :=
  match s.phase with
  | .idle => .settled (.next s)
  | .done => .settled (.next s)
  | .acquire =>
    if chanMore s then sampleBit s (acquireMove s) else .settled (.next (endRun s))
  | .run =>
    if chanMore s then
      if chanWouldCross s.tim.spb.toNat s then sampleBit s (relockMove s)
      else sampleBit s (freeRunMove s)
    else .settled (.next (endRun s))

/-- What a host move does at a step boundary (R127); `pass` leaves the step to the core. -/
def hostFetch (m : HostMove) (s : State) : Fetched :=
  match m with
  | .writeBitRate v => .settled (configure { s.cfg with bitRate := v } s)
  | .writeSampleRate v => .settled (configure { s.cfg with sampleRate := v } s)
  | .writeIdleDrop v => .settled (configure { s.cfg with idleDrop := v } s)
  | .writeChannel v => .settled (configure { s.cfg with channel := v } s)
  | .bindWaveform c => .settled (bindWaveform c s)
  | .start => .settled (start s)
  | .stop => .settled (stop s)
  | .pass => coreFetch s

/-- What a step does up to the codeword it decodes. After a model fault nothing is enabled (R141). At a
step boundary the host moves first, if it has a move to make (log entry 4). -/
def fetch (s : State) : Fetched :=
  match s.fault with
  | some f => .settled (.fault (.modelFault f))
  | none =>
    match s.host with
    | [] => coreFetch s
    | m :: ms => hostFetch m { s with host := ms }

/-- The table's construction check at model creation (R96, R152 item 1): the created machine, or the
fault `TableInconsistent`. -/
def createModel : State :=
  match firstInconsistent with
  | none => State.created
  | some w => setFault (.tableInconsistent w) State.created

/-- The interface `status` (R120). -/
def status (s : State) : Phase × Option ModelFault := (s.phase, s.fault)

/-- The observation of an ended run (R128): `OUT` with `RD`, `SYNC` and `FAULT`. -/
def observation (s : State) : List SymbolRecord × Disparity × SyncState × Option ModelFault :=
  (s.out, s.rd, s.sync, s.fault)

/-- A state in which the next bit step completes the window `w` of a synchronized run and decodes it:
nine bits of `w` stand in the window, one bit period apart, the channel holds the level `w[0]` at the
next bit centre, and a later transition keeps the run going (log entry 3). -/
def loadWindow (w : Codeword) (s : State) : State :=
  { s with
    phase := .run
    cur := s.tim.half + 8 * s.tim.spb
    win := w >>> 1
    wlen := 9
    idxq := (List.range 9).map fun k => s.tim.half + BitVec.ofNat 64 (8 - k) * s.tim.spb
    sync := .synchronized
    fault := none
    chan := { level0 := w.getLsbD 0, transitions := [BitVec.allOnes 64] }
    host := [] }

end Sys2Proof.Machine
end

