-- ==== Sys2Proof/Machine/Step.lean ====
section
/-! DEFINITION. `step`: one step of the machine (45_decode_run.md R122), and the hook that stores an
instruction where the next step fetches it. -/

namespace Sys2Proof.Machine

/-- One step: a move of the host or one bit step of the core, which decodes the window it completes
and runs that codeword's meaning. -/
def step (s : State) : Host.Outcome State Fault Refusal :=
  match fetch s with
  | .settled o => o
  | .window base s' => commit base (exec (decode s'.win) s')

/-- `s` with the table word `w`, a 10-bit codeword, where the next step fetches it: as the window that
the next bit completes. -/
def State.withFetchWord (s : State) (nbits w : Nat) : State :=
  loadWindow (BitVec.ofNat 10 (w % 2 ^ nbits)) s

end Sys2Proof.Machine
end

