-- ==== Sys2Proof/Safety.lean ====
section
/-! DEFINITION. What counts as a safe run: the invariants that every step keeps, and the terms the
statements use. -/

namespace Sys2Proof.Machine

/-- How many of the ten bits of a codeword are 1 (R100): the terms of the statements count them apart
from the model's own `ones`. -/
def bitCount (w : Codeword) : Nat := (List.range 10).countP fun k => w.getLsbD k

/-- The window and its index queue hold ten entries and the span's end, `IDXQ[0] + HALF`, is a 64-bit
index: where a decode cycle runs to its end (R123, R86). -/
abbrev CycleReady (s : State) : Prop :=
  s.wlen = 10 ∧ s.idxq.length = 10 ∧ (s.idxq.headD 0).toNat + s.tim.half.toNat < 2 ^ 64

/-- `CycleReady`, with `IDXQ[0]` and `IDXQ[9]` named: the newest and the oldest bit centre of the
window. -/
abbrev CycleSpans (s : State) (newest oldest : SampleIdx) : Prop :=
  s.wlen = 10 ∧ s.idxq.length = 10 ∧ s.idxq[0]? = some newest ∧ s.idxq[9]? = some oldest ∧
    newest.toNat + s.tim.half.toNat < 2 ^ 64

/-- No model fault is recorded and the host has no move to come: the next step is the core's. -/
abbrev CoreMoves (s : State) : Prop := s.fault = none ∧ s.host = []

/-- `t` is the first transition after `c` (R64). -/
def IsNextTransition (c : SampleIdx) (l : List SampleIdx) (t : SampleIdx) : Prop :=
  t ∈ l ∧ c < t ∧ ∀ u ∈ l, c < u → t ≤ u

/-- The core's next bit step samples at the index `c` (R68, R69, R70). -/
def SamplesAt (s : State) (c : SampleIdx) : Prop :=
  (s.phase = .acquire ∧ ∃ t, IsNextTransition s.cur s.chan.transitions t ∧
    s.tim.icoOver = false ∧ c.toNat = t.toNat + s.tim.ico.toNat) ∨
  (s.phase = .run ∧ chanMore s = true ∧ chanWouldCross s.tim.spb.toNat s = false ∧
    c.toNat = s.cur.toNat + s.tim.spb.toNat) ∨
  (s.phase = .run ∧ chanWouldCross s.tim.spb.toNat s = true ∧
    ∃ t, IsNextTransition s.cur s.chan.transitions t ∧ c.toNat = t.toNat + s.tim.ofs.toNat)

/-- The state with the bit sampled at `c` pushed: the cursor at `c`, the window and the index queue
with the new bit (R72, R80, R81). -/
def withBitAt (s : State) (c : SampleIdx) : State :=
  { s with
    phase := .run
    cur := c
    win := (s.win <<< 1) ||| (BitVec.ofBool (levelAt s.chan c)).setWidth 10
    wlen := min (s.wlen + 1) 10
    idxq := (c :: s.idxq).take 10 }

/-- The bit sampled at `c` brings about no decode cycle: the window is not full with it, or the core hunts
and the window is no comma (R82). -/
abbrev NoCycleAt (s : State) (c : SampleIdx) : Prop :=
  s.wlen < 9 ∨
    (s.sync = .unsynchronized ∧ (withBitAt s c).win ≠ 0x0FA ∧ (withBitAt s c).win ≠ 0x305)

/-- The window as every step leaves it (R17, R18, R19, R21, R84). -/
structure WindowInv (s : State) : Prop where
  /-- "length ∈ [0,10]" (R17). -/
  length : s.wlen ≤ 10
  /-- `len(IDXQ) = WLEN` (R18). -/
  queue : s.idxq.length = s.wlen
  /-- Bits `WIN[9:WLEN]` are 0 (R17). -/
  highBits : s.win.toNat < 2 ^ s.wlen
  /-- A full window does not outlive its decode cycle (R84, R85). -/
  consumed : s.sync = .synchronized → s.wlen < 10
  /-- `FIRST` is set exactly until the decode cycle on the locking comma (R21, R83, R102). -/
  first : s.first = true ↔ s.sync = .unsynchronized

/-- `PENDING` as every step leaves it (R22, R114, R124). -/
structure PendingInv (s : State) : Prop where
  /-- Only a K28.5 is held. -/
  comma : ∀ p, s.pending = some p → isComma p = true
  /-- "It is always `none` when `CFG_IDLE_DROP = 0`" (R22). -/
  suppressing : s.cfg.idleDrop = false → s.pending = none
  /-- END flushes it (R124), and nothing runs before START. -/
  atRest : atRest s = true → s.pending = none

/-- The run's constants, the waveform and the bit centres as every step leaves them (R14, R18, R40, R60,
R72, R86, R121). -/
structure RunInv (s : State) : Prop where
  /-- A run's configuration is legal (R121). -/
  legal : atRest s = false → configLegal s.cfg = true
  /-- The derived constants are held unchanged for the whole run (R14). -/
  constants : atRest s = false → s.tim = deriveTiming s.cfg s.params.initialCenter
  /-- The waveform is one of R60. -/
  waveform : s.chan.wf = true
  /-- No bit has been sampled in Acquire (R15). -/
  acquiring : s.phase = .acquire → s.idxq = []
  /-- Every bit centre lies more than half a bit into the capture (R86), the cursor with them. -/
  beyondHalf : s.phase = .run → s.tim.half < s.cur ∧ ∀ c ∈ s.idxq, s.tim.half < c ∧ c ≤ s.cur
  /-- "The sample indices of successive samples strictly increase" (R72), newest first in `IDXQ`. -/
  ordered : s.idxq.Pairwise fun a b => b < a
  /-- A symbol's span starts before it ends (R86). -/
  spans : ∀ r ∈ s.out ++ s.pending.toList, r.spanStart < r.spanEnd

/-- A symbol record says what the table and the disparity rule say of its codeword (R110, R111, R101). -/
structure RecordOk (r : SymbolRecord) : Prop where
  table : lookup r.codeword =
    { value := r.value, isK := r.isK, dclass := r.dclass, valid := r.valid }
  kind : r.kind = classify r.valid r.isK
  onesSide : r.violation = .onesWhilePositive → 5 < bitCount r.codeword ∧ r.rdAtDecode = .positive
  zerosSide : r.violation = .zerosWhileNegative → bitCount r.codeword < 5 ∧ r.rdAtDecode = .negative

/-- Every record emitted or held is sound. -/
def OutputInv (s : State) : Prop := ∀ r ∈ s.out ++ s.pending.toList, RecordOk r

/-- A step is safe when it has a next state. -/
def Safe (o : Result) : Prop := ∃ t, o = .next t

end Sys2Proof.Machine
end

