-- ==== Sys2Proof/Certificates/Slice0/Obligations.lean ====
section
/-! DEFINITION. The statements for the provers. Each docstring names the rules of spec/ it states, or says
that it is the model's own. -/

open Sys2Proof Sys2Proof.Machine

/-! ### Encoding and the table -/

/-- Decode and encode agree on every well-formed instruction (R45, R59, R54): no bit of a codeword is
dropped, and an invalid codeword keeps all ten. -/
def Obligations.DecodeOfEncodeIsTheInstruction : Prop :=
  ∀ i : Instr, i.WellFormed → decode (encode i) = i

/-- A sanity check on words written out in transmission order: the four codewords the source document
gives, both idle data characters, an A7 form, a K28.7, a P7 where A7 is required, and all zeros. -/
def Obligations.WrittenOutWordsDecode : Prop :=
  decode 0b0011111010 = .k28_5_neg ∧ decode 0b1100000101 = .k28_5_pos ∧
  decode 0b0110001011 = .d0_0_pos ∧ decode 0b1001111001 = .d0_1_neg ∧
  decode 0b0101010101 = .d10_2 ∧ decode 0b1100101010 = .d19_5 ∧
  decode 0b1000110111 = .d17_7_neg ∧ decode 0b0011111000 = .k28_7_neg ∧
  decode 0b1000111110 = .invalid 0x23E ∧ decode 0b0000000000 = .invalid 0

/-- Bits decode in transmission order (R31), and "every codeword is exactly 10 bits" (R56): any other
number of bits is refused by name. -/
def Obligations.TenBitsInTransmissionOrderDecode : Prop :=
  (∀ i : Instr, i.WellFormed → decodeBits (encodeBits i) = .ok i) ∧
  ∀ bits : List Bool, bits.length ≠ 10 → decodeBits bits = .error .notTenBits

/-- The table holds both forms of every data symbol and of the twelve K-characters (R50, R51), with the
class of the column, Neutral where both forms are one codeword (R52). -/
def Obligations.TableHoldsEveryConstructedCodeword : Prop :=
  ∀ (k : Bool) (x : BitVec 5) (y : BitVec 3) (rd : Disparity),
    (k = true → x = 28 ∨ (y = 7 ∧ (x = 23 ∨ x = 27 ∨ x = 29 ∨ x = 30))) →
    rom (buildCodeword k x.toNat y.toNat rd) =
      .hit (symbolValue x y) k
        (if buildCodeword k x.toNat y.toNat .negative = buildCodeword k x.toNat y.toNat .positive
          then .neutral
          else match rd with
            | .negative => .negative
            | .positive => .positive)

/-- The table holds nothing else: an entry's codeword is a form of its value, in the column of its class
(R94, R96), and a control entry is one of the twelve K-characters (R51). -/
def Obligations.TableHoldsOnlyConstructedCodewords : Prop :=
  ∀ (w : Codeword) (v : Value) (k : Bool) (c : DisparityClass), rom w = .hit v k c →
    (∀ rd ∈ classColumns c, w = buildCodeword k (valueX v).toNat (valueY v).toNat rd) ∧
    (k = true → valueX v = 28 ∨
      (valueY v = 7 ∧ (valueX v = 23 ∨ valueX v = 27 ∨ valueX v = 29 ∨ valueX v = 30)))

/-- The counts of R55: 440 data and 24 control codewords, 72 of them Neutral, 560 invalid values, 184 data
symbols of two forms; no codeword is the form of two symbols. And the ones counts of R58: an RD− form has
5 or 6, an RD+ form 4 or 5, a Neutral codeword exactly 5; 210 codewords have 5, 127 have 6 and 127 have
4; an invalid codeword may have any count from 0 to 10. -/
def Obligations.TableCounts : Prop :=
  let entries := (List.range 1024).map fun n => rom (BitVec.ofNat 10 n)
  let hitsWith := fun m => (List.range 1024).countP fun n =>
    rom (BitVec.ofNat 10 n) != .miss && bitCount (BitVec.ofNat 10 n) == m
  entries.countP (fun e => match e with | .hit _ false _ => true | _ => false) = 440 ∧
  entries.countP (fun e => match e with | .hit _ true _ => true | _ => false) = 24 ∧
  entries.countP (fun e => match e with | .hit _ _ .neutral => true | _ => false) = 72 ∧
  entries.countP (fun e => match e with | .miss => true | _ => false) = 560 ∧
  listing.countP (fun r => !r.value9.getLsbD 8 && r.minus != r.plus) = 184 ∧
  (∀ r ∈ listing, ∀ q ∈ listing, ∀ w, r.holds w = true → q.holds w = true → r = q) ∧
  (∀ w v k c, rom w = .hit v k c →
    match c with
    | .negative => bitCount w = 5 ∨ bitCount w = 6
    | .positive => bitCount w = 4 ∨ bitCount w = 5
    | .neutral => bitCount w = 5) ∧
  hitsWith 5 = 210 ∧ hitsWith 6 = 127 ∧ hitsWith 4 = 127 ∧
  ∀ m ≤ 10, ∃ w, rom w = .miss ∧ bitCount w = m

/-- The table's construction check finds nothing (R96): `TableInconsistent` cannot happen (R130). -/
def Obligations.TableConstructionRaisesNoFault : Prop := createModel = State.created

/-- What `lookup` returns for a hit and for a miss (R90, R93). -/
def Obligations.LookupReturnsTheEntry : Prop :=
  (∀ w v k c, rom w = .hit v k c → lookup w = { value := v, isK := k, dclass := c, valid := true }) ∧
  ∀ w, rom w = .miss →
    lookup w = { value := 0x00, isK := false, dclass := .neutral, valid := false }

/-! ### The decode cycle of each codeword -/

/-- Every data codeword (all 440 constructors whose names begin with `d`) completes on a full window whose
span fits, with suppression off: it emits its Data symbol, updates `RD`, clears `FIRST` and the window,
and changes nothing else (R91, R113, R123). The span (R86) runs from `IDXQ[9] − HALF`, a free
value where `HALF` is the greater (log entry 8), to `IDXQ[0] + HALF`. -/
def Obligations.DataCodewordEmitsItsSymbol : Prop :=
  ∀ (i : Instr) (v : Value) (c : DisparityClass) (s : State)
    (newest oldest : SampleIdx),
    i.WellFormed → rom (encode i) = .hit v false c → s.cfg.idleDrop = false →
    CycleSpans s newest oldest →
    exec i s = .next { s with
      rd := rdAfter (encode i) s.rd, first := false, win := 0, wlen := 0, idxq := []
      out := s.out ++ [
        { value := v, isK := false, codeword := encode i, dclass := c, valid := true, kind := .data
          violation := rdViolation (encode i) s.rd s.first, rdAtDecode := s.rd
          spanStart := if s.tim.half ≤ oldest then oldest - s.tim.half
            else Config.freeSpanStart oldest s.tim.half
          spanEnd := newest + s.tim.half }] }

/-- Every control codeword (all 24 constructors whose names begin with `k`) completes on a full window
whose span fits, with suppression off: it emits its Control symbol, updates `RD`, clears `FIRST` and the
window, and changes nothing else (R92, R113, R123). The span (R86) runs from `IDXQ[9] − HALF`, a free
value where `HALF` is the greater (log entry 8), to `IDXQ[0] + HALF`. -/
def Obligations.ControlCodewordEmitsItsSymbol : Prop :=
  ∀ (i : Instr) (v : Value) (c : DisparityClass) (s : State)
    (newest oldest : SampleIdx),
    i.WellFormed → rom (encode i) = .hit v true c → s.cfg.idleDrop = false →
    CycleSpans s newest oldest →
    exec i s = .next { s with
      rd := rdAfter (encode i) s.rd, first := false, win := 0, wlen := 0, idxq := []
      out := s.out ++ [
        { value := v, isK := true, codeword := encode i, dclass := c, valid := true, kind := .control
          violation := rdViolation (encode i) s.rd s.first, rdAtDecode := s.rd
          spanStart := if s.tim.half ≤ oldest then oldest - s.tim.half
            else Config.freeSpanStart oldest s.tim.half
          spanEnd := newest + s.tim.half }] }

/-- An invalid codeword (the constructor `invalid`) completes on a full window whose span fits, with
suppression off: it emits an Error symbol with the fallback fields, updates `RD` from the raw codeword,
and decoding goes on (R54, R93, R103, R113). The span (R86) runs from `IDXQ[9] − HALF`, a free
value where `HALF` is the greater (log entry 8), to `IDXQ[0] + HALF`. -/
def Obligations.InvalidCodewordEmitsAnError : Prop :=
  ∀ (w : Codeword) (s : State) (newest oldest : SampleIdx),
    (Instr.invalid w).WellFormed → s.cfg.idleDrop = false → CycleSpans s newest oldest →
    exec (.invalid w) s = .next { s with
      rd := rdAfter w s.rd, first := false, win := 0, wlen := 0, idxq := []
      out := s.out ++ [
        { value := 0x00, isK := false, codeword := w, dclass := .neutral, valid := false, kind := .error
          violation := rdViolation w s.rd s.first, rdAtDecode := s.rd
          spanStart := if s.tim.half ≤ oldest then oldest - s.tim.half
            else Config.freeSpanStart oldest s.tim.half
          spanEnd := newest + s.tim.half }] }

/-- With suppression on, a data codeword (any constructor whose name begins with `d`) completes: D10.2 or
D19.5 after a held K28.5 drops both; any other data symbol is emitted, a held K28.5 before it (R112,
R114). The span (R86) runs from `IDXQ[9] − HALF`, a free
value where `HALF` is the greater (log entry 8), to `IDXQ[0] + HALF`. -/
def Obligations.DataCodewordUnderSuppression : Prop :=
  ∀ (i : Instr) (v : Value) (c : DisparityClass) (s : State)
    (newest oldest : SampleIdx),
    i.WellFormed → rom (encode i) = .hit v false c → s.cfg.idleDrop = true →
    CycleSpans s newest oldest →
    let r : SymbolRecord :=
      { value := v, isK := false, codeword := encode i, dclass := c, valid := true, kind := .data
        violation := rdViolation (encode i) s.rd s.first, rdAtDecode := s.rd
        spanStart := if s.tim.half ≤ oldest then oldest - s.tim.half
          else Config.freeSpanStart oldest s.tim.half
        spanEnd := newest + s.tim.half }
    exec i s = .next { s with
      rd := rdAfter (encode i) s.rd, first := false, win := 0, wlen := 0, idxq := []
      pending := none
      out := match s.pending with
        | none => s.out ++ [r]
        | some p => if v = 0x4A ∨ v = 0xB3 then s.out else s.out ++ [p, r] }

/-- With suppression on, a control codeword (any constructor whose name begins with `k`) completes: a
K28.5 held before it is emitted; K28.5 itself, either form, is held, any other is emitted (R112,
R114). The span (R86) runs from `IDXQ[9] − HALF`, a free
value where `HALF` is the greater (log entry 8), to `IDXQ[0] + HALF`. -/
def Obligations.ControlCodewordUnderSuppression : Prop :=
  ∀ (i : Instr) (v : Value) (c : DisparityClass) (s : State)
    (newest oldest : SampleIdx),
    i.WellFormed → rom (encode i) = .hit v true c → s.cfg.idleDrop = true →
    CycleSpans s newest oldest →
    let r : SymbolRecord :=
      { value := v, isK := true, codeword := encode i, dclass := c, valid := true, kind := .control
        violation := rdViolation (encode i) s.rd s.first, rdAtDecode := s.rd
        spanStart := if s.tim.half ≤ oldest then oldest - s.tim.half
          else Config.freeSpanStart oldest s.tim.half
        spanEnd := newest + s.tim.half }
    exec i s = .next { s with
      rd := rdAfter (encode i) s.rd, first := false, win := 0, wlen := 0, idxq := []
      pending := if v = 0xBC then some r else none
      out := s.out ++ s.pending.toList ++ (if v = 0xBC then [] else [r]) }

/-- With suppression on, an invalid codeword (the constructor `invalid`) completes: its Error symbol is
emitted, a held K28.5 before it (R114). The span (R86) runs from `IDXQ[9] − HALF`, a free
value where `HALF` is the greater (log entry 8), to `IDXQ[0] + HALF`. -/
def Obligations.InvalidCodewordUnderSuppression : Prop :=
  ∀ (w : Codeword) (s : State) (newest oldest : SampleIdx),
    (Instr.invalid w).WellFormed → s.cfg.idleDrop = true → CycleSpans s newest oldest →
    exec (.invalid w) s = .next { s with
      rd := rdAfter w s.rd, first := false, win := 0, wlen := 0, idxq := []
      pending := none
      out := s.out ++ s.pending.toList ++ [
        { value := 0x00, isK := false, codeword := w, dclass := .neutral, valid := false, kind := .error
          violation := rdViolation w s.rd s.first, rdAtDecode := s.rd
          spanStart := if s.tim.half ≤ oldest then oldest - s.tim.half
            else Config.freeSpanStart oldest s.tim.half
          spanEnd := newest + s.tim.half }] }

/-- Where the end of the span, `IDXQ[0] + HALF`, passes 2^64 − 1, every codeword's cycle raises
`CursorOverflow` with `IDXQ[0]` and `HALF` (R86) and writes nothing but `FAULT` (R126). -/
def Obligations.SpanPastTheLastIndexFaults : Prop :=
  ∀ (i : Instr) (s : State) (newest : SampleIdx),
    s.wlen = 10 → s.idxq.length = 10 → s.idxq[0]? = some newest →
    2 ^ 64 ≤ newest.toNat + s.tim.half.toNat →
    exec i s = .next { s with fault := some (.cursorOverflow newest s.tim.half.toNat) }

/-- The model's choice (log entry 11): where the window or the index queue does not hold ten entries,
outside the condition of R123, a decode cycle of any codeword stops by name. -/
def Obligations.CycleWithoutAFullWindowStops : Prop :=
  ∀ (i : Instr) (s : State), (s.wlen ≠ 10 ∨ s.idxq.length ≠ 10) → exec i s = .fault .windowNotFull

/-- The frame of every codeword: the configuration, the derived constants, `PHASE`, `CUR`, `SYNC`, the
parameters, the waveform and the host's moves are unchanged; and where no fault is raised the window is
empty, `FIRST` is clear, `RD` is what `UpdateRD` gives, and `OUT` has grown by at most two records. -/
def Obligations.CodewordFrame : Prop :=
  ∀ (i : Instr) (s t : State), i.WellFormed → exec i s = .next t →
    (t.cfg = s.cfg ∧ t.tim = s.tim ∧ t.phase = s.phase ∧ t.cur = s.cur ∧ t.sync = s.sync ∧
      t.params = s.params ∧ t.chan = s.chan ∧ t.host = s.host) ∧
    (t.fault = s.fault → CycleReady s →
      t.win = 0 ∧ t.wlen = 0 ∧ t.idxq = [] ∧ t.first = false ∧ t.rd = rdAfter (encode i) s.rd ∧
      s.out <+: t.out ∧ t.out.length ≤ s.out.length + 2)

/-- An idle ordered set leaves no trace in the output (R114, R117): a K28.5 of either form, then D10.2 or
D19.5 on the next window, with suppression on and nothing held. `RD` is what the K28.5 made it. -/
def Obligations.IdlePairLeavesNoTrace : Prop :=
  ∀ (k d : Instr) (s : State), (k = .k28_5_neg ∨ k = .k28_5_pos) → (d = .d10_2 ∨ d = .d19_5) →
    s.cfg.idleDrop = true → s.pending = none → CycleReady s →
    ∃ t, exec k s = .next t ∧ t.out = s.out ∧
      ∀ (cur : SampleIdx) (win : Codeword) (wlen : Nat) (idxq : List SampleIdx),
        CycleReady { t with cur := cur, win := win, wlen := wlen, idxq := idxq } →
        ∃ v, exec d { t with cur := cur, win := win, wlen := wlen, idxq := idxq } = .next v ∧
          v.out = s.out ∧ v.pending = none ∧ v.rd = rdAfter (encode k) s.rd

/-- Suppression does not affect `RD`, `FIRST` or the window (R117): what a codeword leaves there is the
same whatever `CFG_IDLE_DROP` and `PENDING` hold. -/
def Obligations.SuppressionDoesNotTouchTheDisparity : Prop :=
  ∀ (i : Instr) (s t u : State) (b : Bool) (p : Option SymbolRecord),
    exec i s = .next t →
    exec i { s with cfg := { s.cfg with idleDrop := b }, pending := p } = .next u →
    t.rd = u.rd ∧ t.first = u.first ∧ t.win = u.win ∧ t.wlen = u.wlen ∧ t.idxq = u.idxq ∧
      t.fault = u.fault

/-! ### Running disparity and classification -/

/-- The five cases of `UpdateRD` (R101) by how many of the codeword's ten bits are 1 (R100), for every
codeword, with suppression off or on: `RD` after the cycle, the violation its record `r` carries, and `RD`
before it as the record's `rd_at_decode`. With suppression off `r` is emitted; with it on and nothing held,
`r` is emitted or held. -/
def Obligations.DisparityUpdateCases : Prop :=
  ∀ (i : Instr) (s : State), i.WellFormed → CycleReady s →
    ∃ t r, exec i s = .next t ∧ r.rdAtDecode = s.rd ∧
      (s.cfg.idleDrop = false → t.out = s.out ++ [r]) ∧
      (s.cfg.idleDrop = true → s.pending = none → t.out ++ t.pending.toList = s.out ++ [r]) ∧
      let n := bitCount (encode i)
      (n > 5 → s.rd = .negative → t.rd = .positive ∧ r.violation = .none) ∧
      (n < 5 → s.rd = .positive → t.rd = .negative ∧ r.violation = .none) ∧
      (n > 5 → s.rd = .positive → t.rd = .positive ∧
        r.violation = if s.first then .none else .onesWhilePositive) ∧
      (n < 5 → s.rd = .negative → t.rd = .negative ∧
        r.violation = if s.first then .none else .zerosWhileNegative) ∧
      (n = 5 → t.rd = s.rd ∧ r.violation = .none)

/-- `RD` and the violations depend on the ones counts of the codewords alone (R105, R106): two codewords
on the same side of 5, in states that agree on `RD` and `FIRST` and on nothing else, leave the same
`RD` and `FIRST` and report the same violation. -/
def Obligations.DisparityDependsOnOnesCountsAlone : Prop :=
  ∀ (i j : Instr) (s u : State), i.WellFormed → j.WellFormed →
    (5 < bitCount (encode i) ↔ 5 < bitCount (encode j)) →
    (bitCount (encode i) < 5 ↔ bitCount (encode j) < 5) →
    s.rd = u.rd → s.first = u.first → CycleReady s → CycleReady u →
    ∃ t v, exec i s = .next t ∧ exec j u = .next v ∧ t.rd = v.rd ∧ t.first = v.first ∧
      (∀ r ∈ t.pending.toList ++ t.out.drop s.out.length, r ∉ s.pending →
        r.violation = rdViolation (encode j) u.rd u.first)

/-- The first decode cycle of a run reports no violation (R102): with `FIRST` set and nothing held, no
record it emits or holds carries one. -/
def Obligations.FirstWindowIsNeverAViolation : Prop :=
  ∀ (i : Instr) (s : State), i.WellFormed → s.first = true → s.pending = none → CycleReady s →
    ∃ t, exec i s = .next t ∧ t.first = false ∧
      ∀ r ∈ t.out.drop s.out.length ++ t.pending.toList, r.violation = .none

/-- `Classify` (R110). -/
def Obligations.ClassifyGivesTheKind : Prop :=
  (∀ k, classify false k = .error) ∧ classify true true = .control ∧ classify true false = .data

/-! ### The channel and the sampler -/

/-- The level of a waveform (R60): it is `L0` at index 0, and it differs from the level before exactly at
the transitions. -/
def Obligations.LevelChangesExactlyAtTransitions : Prop :=
  ∀ (c : Waveform), c.wf = true →
    levelAt c 0 = c.level0 ∧
    ∀ i : SampleIdx, i ≠ 0 → (levelAt c i ≠ levelAt c (i - 1) ↔ i ∈ c.transitions)

/-- `Chan.wouldCross(n)` counts a transition at `CUR + n` and not one at `CUR` (R63), and `Chan.more()`
holds where some transition lies after `CUR` (R65). -/
def Obligations.CrossingBoundsAreInclusiveAbove : Prop :=
  ∀ (s : State) (n : Nat),
    (chanWouldCross n s = true ↔
      ∃ t ∈ s.chan.transitions, s.cur.toNat < t.toNat ∧ t.toNat ≤ s.cur.toNat + n) ∧
    (chanMore s = true ↔ ∃ t ∈ s.chan.transitions, s.cur.toNat < t.toNat)

/-- `Chan.advance(n)` (R62): it moves the cursor and nothing else, or faults where the sum does not fit in
64 bits. -/
def Obligations.AdvanceMovesTheCursorOrFaults : Prop :=
  ∀ (s : State) (n : Nat),
    (s.cur.toNat + n ≤ 2 ^ 64 - 1 →
      ∃ c, c.toNat = s.cur.toNat + n ∧ chanAdvance n s = .ok { s with cur := c }) ∧
    (s.cur.toNat + n > 2 ^ 64 - 1 → chanAdvance n s = .error (.cursorOverflow s.cur n))

/-- `Chan.toNextTransition()` (R64): the least transition after the cursor, or the fault where there is
none. -/
def Obligations.ToNextTransitionMovesToTheLeast : Prop :=
  ∀ s : State,
    (∀ t, IsNextTransition s.cur s.chan.transitions t →
      chanToNextTransition s = .ok { s with cur := t }) ∧
    ((∀ t ∈ s.chan.transitions, t ≤ s.cur) →
      chanToNextTransition s = .error (.channelNoTransition s.cur))

/-- ACQUIRE (R68): the cursor goes to the first transition and on by `ICO`, to `c`, the phase becomes Run,
and the bit there enters the window (R72, R80, R81); nothing else changes where the bit brings about no
decode cycle. An `ICO` past 64 bits (log entry 7) leads to no index: MovePastTheLastIndexFaults. -/
def Obligations.AcquireSamplesTheFirstBit : Prop :=
  ∀ (s : State) (t c : SampleIdx), CoreMoves s → s.phase = .acquire →
    IsNextTransition s.cur s.chan.transitions t →
    s.tim.icoOver = false → c.toNat = t.toNat + s.tim.ico.toNat →
    NoCycleAt s c →
    step s = .next { s with
      phase := .run, cur := c
      win := (s.win <<< 1) ||| (BitVec.ofBool (levelAt s.chan c)).setWidth 10
      wlen := min (s.wlen + 1) 10, idxq := (c :: s.idxq).take 10 }

/-- BITSTEP, free-running (R69): with no transition in `(CUR, CUR + SPB]` but one after it, `CUR + SPB` is
a 64-bit index, the cursor advances to it, and the bit there enters the window (R72, R80, R81); nothing
else changes where the bit brings about no decode cycle. -/
def Obligations.FreeRunningStepSamplesOneBitPeriodOn : Prop :=
  ∀ s : State, CoreMoves s → s.phase = .run → chanMore s = true →
    chanWouldCross s.tim.spb.toNat s = false →
    ∃ c : SampleIdx, c.toNat = s.cur.toNat + s.tim.spb.toNat ∧
      (NoCycleAt s c → step s = .next { s with
        cur := c
        win := (s.win <<< 1) ||| (BitVec.ofBool (levelAt s.chan c)).setWidth 10
        wlen := min (s.wlen + 1) 10, idxq := (c :: s.idxq).take 10 })

/-- BITSTEP, re-lock (R70): with a transition in `(CUR, CUR + SPB]` the cursor goes to the first of them and
on by `OFS`, to `c`, and the bit there enters the window (R72, R80, R81); nothing else changes where the
bit brings about no decode cycle. -/
def Obligations.RelockStepSamplesPastTheTransition : Prop :=
  ∀ (s : State) (t c : SampleIdx), CoreMoves s → s.phase = .run →
    IsNextTransition s.cur s.chan.transitions t → t.toNat ≤ s.cur.toNat + s.tim.spb.toNat →
    c.toNat = t.toNat + s.tim.ofs.toNat → NoCycleAt s c →
    step s = .next { s with
      cur := c
      win := (s.win <<< 1) ||| (BitVec.ofBool (levelAt s.chan c)).setWidth 10
      wlen := min (s.wlen + 1) 10, idxq := (c :: s.idxq).take 10 }

/-- With no transition left, ACQUIRE and BITSTEP end the run (R68, R71): the held K28.5 is emitted where
`FLUSH_PENDING_AT_END` says so, and a partial window stays as it is (R115, R124). -/
def Obligations.NoTransitionLeftEndsTheRun : Prop :=
  ∀ s : State, CoreMoves s → (s.phase = .acquire ∨ s.phase = .run) →
    (∀ t ∈ s.chan.transitions, t ≤ s.cur) →
    step s = .next { s with
      phase := .done, pending := none
      out := s.out ++ (if s.params.flushPendingAtEnd then s.pending.toList else []) }

/-- A sampler move that would pass 2^64 − 1 after its transition, ACQUIRE's by `ICO` (R68) or a re-lock's by
`OFS` (R70), raises `CursorOverflow` with the transition and the offset (R62) and writes nothing else
(R126). That an `ICO` past 64 bits is such a move is the model's choice (log entry 7). -/
def Obligations.MovePastTheLastIndexFaults : Prop :=
  ∀ (s : State) (t : SampleIdx), CoreMoves s → IsNextTransition s.cur s.chan.transitions t →
    let ico := s.tim.ico.toNat + if s.tim.icoOver then 2 ^ 64 else 0
    (s.phase = .acquire → 2 ^ 64 ≤ t.toNat + ico →
      step s = .next { s with fault := some (.cursorOverflow t ico) }) ∧
    (s.phase = .run → t.toNat ≤ s.cur.toNat + s.tim.spb.toNat →
      2 ^ 64 ≤ t.toNat + s.tim.ofs.toNat →
      step s = .next { s with fault := some (.cursorOverflow t s.tim.ofs.toNat) })

/-! ### The synchronizer -/

/-- A step runs the decoded instruction: where the bit sampled at `c` completes the window of a
synchronized core, or completes a comma in a hunting one (which locks, R83), the step is the meaning of
the codeword that the window decodes to, on the state with that bit pushed and `SYNC` Synchronized,
whatever `CFG_IDLE_DROP` holds; a fault of it falls back to the state before the step (R84, R122,
R126). -/
def Obligations.CompletedWindowRunsItsCodeword : Prop :=
  ∀ (s : State) (c : SampleIdx), CoreMoves s → SamplesAt s c → 9 ≤ s.wlen →
    (s.sync = .synchronized ∨ (withBitAt s c).win = 0x0FA ∨ (withBitAt s c).win = 0x305) →
    step s = commit s
      (exec (decode (withBitAt s c).win) { withBitAt s c with sync := .synchronized })

/-- Ten bits entering an empty window stand in it in transmission order (R31, R80): the first at `WIN[9]`,
the last at `WIN[0]`. -/
def Obligations.TenBitsFillTheWindow : Prop :=
  ∀ (b0 b1 b2 b3 b4 b5 b6 b7 b8 b9 : Bool) (s : State), s.wlen = 0 →
    let t := shiftIn b9 (shiftIn b8 (shiftIn b7 (shiftIn b6 (shiftIn b5 (shiftIn b4 (shiftIn b3
      (shiftIn b2 (shiftIn b1 (shiftIn b0 s)))))))))
    t.wlen = 10 ∧ t.win = codewordOfBits [b0, b1, b2, b3, b4, b5, b6, b7, b8, b9]

/-- While hunting, no symbol is emitted and `RD` is not changed (R82): a step that does not synchronize and
does not end the run leaves the output, `PENDING`, `RD` and `FIRST` as they are. -/
def Obligations.HuntingEmitsNothing : Prop :=
  ∀ s t : State, step s = .next t → s.host = [] → s.sync = .unsynchronized →
    t.sync = .unsynchronized → t.phase = .run →
    t.out = s.out ∧ t.pending = s.pending ∧ t.rd = s.rd ∧ t.first = s.first

/-- "No other pattern may trigger synchronization" (R53, R83): a step that synchronizes has completed a full
window that is 0x0FA or 0x305, the bit sampled at the new cursor its newest. -/
def Obligations.OnlyACommaSynchronizes : Prop :=
  ∀ s t : State, step s = .next t → s.sync = .unsynchronized → t.sync = .synchronized →
    9 ≤ s.wlen ∧
    ((withBitAt s t.cur).win = 0x0FA ∨ (withBitAt s t.cur).win = 0x305)

/-- The comma that locks is itself decoded as the run's first symbol (R83, R102, R159): the core is
synchronized, the window is empty, and the K28.5, which carries no violation, is emitted with suppression
off; with suppression on it takes part like any other K28.5 (R114): it is held, and a K28.5 held before
it is emitted. -/
def Obligations.LockingCommaIsDecoded : Prop :=
  ∀ (s : State) (c : SampleIdx), CoreMoves s → SamplesAt s c → s.sync = .unsynchronized →
    9 ≤ s.wlen → s.idxq.length = s.wlen → s.first = true →
    ((withBitAt s c).win = 0x0FA ∨ (withBitAt s c).win = 0x305) →
    c.toNat + s.tim.half.toNat < 2 ^ 64 →
    ∃ t r, step s = .next t ∧ t.sync = .synchronized ∧ t.first = false ∧ t.wlen = 0 ∧
      t.idxq = [] ∧ t.cur = c ∧ t.rd = rdAfter (withBitAt s c).win s.rd ∧
      (s.cfg.idleDrop = false → t.out = s.out ++ [r] ∧ t.pending = s.pending) ∧
      (s.cfg.idleDrop = true → t.out = s.out ++ s.pending.toList ∧ t.pending = some r) ∧
      r.value = 0xBC ∧ r.isK = true ∧ r.kind = .control ∧ r.violation = .none ∧
      r.codeword = (withBitAt s c).win ∧ r.rdAtDecode = s.rd

/-- The cadence of a locked core (R84, R85): each bit step that neither ends the run nor faults adds a bit,
the tenth empties the window, and between decode cycles nothing is emitted and `RD` stands. -/
def Obligations.LockedCadenceIsEveryTenthBit : Prop :=
  ∀ s t : State, WindowInv s → CoreMoves s → s.sync = .synchronized → step s = .next t →
    s.phase = .run → t.phase = .run → t.fault = none →
    t.sync = .synchronized ∧ t.wlen = (if s.wlen = 9 then 0 else s.wlen + 1) ∧
    (s.wlen ≠ 9 → t.out = s.out ∧ t.pending = s.pending ∧ t.rd = s.rd)

/-- `SYNC` never returns to Unsynchronized within a run (R87): only START clears it. -/
def Obligations.SynchronizationNeverReverts : Prop :=
  ∀ s t : State, step s = .next t → s.sync = .synchronized →
    t.sync = .synchronized ∨ (s.host.head? = some .start ∧ atRest s = true)

/-! ### Whole-machine rules -/

/-- `CUR` only increases (R16): a step of a run never moves it back. -/
def Obligations.CursorNeverMovesBack : Prop :=
  ∀ s t : State, step s = .next t → s.cur ≤ t.cur ∨ (s.host.head? = some .start ∧ atRest s = true)

/-- `OUT` is only appended to (R25), at most two records a step (R160); START empties it (R150). -/
def Obligations.OutputIsOnlyAppendedTo : Prop :=
  ∀ s t : State, step s = .next t →
    (s.out <+: t.out ∧ t.out.length ≤ s.out.length + 2) ∨
    (s.host.head? = some .start ∧ atRest s = true ∧ t.out = [])

/-- After a model fault no step, START, STOP or configuration write is enabled (R141): every step stops with
that fault. -/
def Obligations.FaultedMachineTakesNoStep : Prop :=
  ∀ (s : State) (f : ModelFault), s.fault = some f → step s = .fault (.modelFault f)

/-- A step that raises a model fault writes nothing but `FAULT` (R126, R131); the host's move is used up. -/
def Obligations.FaultingStepWritesOnlyTheFault : Prop :=
  ∀ s t : State, step s = .next t → t.fault ≠ none →
    t = { s with fault := t.fault, host := s.host.tail }

/-- The model faults that a step can raise (R130): `ConfigIllegal` by START, and `CursorOverflow` by a bit
step. `TableInconsistent` and `ChannelNoTransition` cannot happen. -/
def Obligations.OnlyTwoFaultsCanHappen : Prop :=
  ∀ (s t : State) (f : ModelFault), step s = .next t → t.fault = some f →
    (f = .configIllegal s.cfg.bitRate s.cfg.sampleRate ∧ s.host.head? = some .start ∧
      atRest s = true ∧ configLegal s.cfg = false) ∨
    ((∃ b n, f = .cursorOverflow b n) ∧ atRest s = false)

/-- Within a run no step changes the configuration, the derived constants or the waveform (R14, R40, R127),
and no step at all changes the parameters (R5). -/
def Obligations.RunKeepsItsArguments : Prop :=
  ∀ s t : State, step s = .next t →
    t.params = s.params ∧
    (atRest s = false → t.cfg = s.cfg ∧ t.tim = s.tim ∧ t.chan = s.chan)

/-! ### The host's moves and reset -/

/-- START writes the reset values (R121, R150) and leaves the configuration, the parameters and the waveform
unchanged; `FAULT` stays none. -/
def Obligations.StartWritesTheResetValues : Prop :=
  ∀ (s : State) (ms : List HostMove), s.fault = none → s.host = .start :: ms → atRest s = true →
    1 ≤ s.cfg.bitRate.toNat → s.cfg.bitRate.toNat ≤ 10000000 →
    4 * s.cfg.bitRate.toNat ≤ s.cfg.sampleRate.toNat →
    step s = .next
      { cfg := s.cfg, tim := deriveTiming s.cfg s.params.initialCenter
        phase := .acquire, cur := s.params.captureStart, win := 0, wlen := 0, idxq := []
        sync := .unsynchronized, rd := .negative, first := true, pending := none, out := []
        fault := none, params := s.params, chan := s.chan, host := ms }

/-- START on an illegal configuration raises `ConfigIllegal` with both rates and writes nothing else (R121,
R126). -/
def Obligations.StartRefusesAnIllegalConfiguration : Prop :=
  ∀ (s : State) (ms : List HostMove), s.fault = none → s.host = .start :: ms → atRest s = true →
    (s.cfg.bitRate.toNat = 0 ∨ 10000000 < s.cfg.bitRate.toNat ∨
      s.cfg.sampleRate.toNat < 4 * s.cfg.bitRate.toNat) →
    step s = .next { s with
      fault := some (.configIllegal s.cfg.bitRate s.cfg.sampleRate), host := ms }

/-- The derived constants (R14) and their laws (R67), for every legal configuration: each 64-bit register
holds its formula where 64 bits can, and the laws hold of the numbers. Only `STC`, and `ICO` where the
parameter chooses `STC`, can pass 64 bits; that a bit beside the register then stands for 2^64 is the
model's choice (log entry 7). -/
def Obligations.DerivedTimingObeysItsLaws : Prop :=
  ∀ (c : CfgRegs) (p : CenterOffset),
    1 ≤ c.bitRate.toNat → c.bitRate.toNat ≤ 10000000 →
    4 * c.bitRate.toNat ≤ c.sampleRate.toNat →
    let sr := c.sampleRate.toNat
    let br := c.bitRate.toNat
    let stc := (3 * sr + br) / (2 * br)
    let t := deriveTiming c p
    t.spb.toNat = sr / br ∧ t.stc.toNat + (if t.stcOver then 2 ^ 64 else 0) = stc ∧
    (t.stcOver = true ↔ 2 ^ 64 ≤ stc) ∧
    t.spb.toNat + t.ofs.toNat = stc ∧ t.half.toNat = t.spb.toNat / 2 ∧
    (p = .stcMinusSpb → t.ico = t.ofs ∧ t.icoOver = false) ∧
    (p = .stc → t.ico = t.stc ∧ t.icoOver = t.stcOver) ∧
    4 ≤ t.spb.toNat ∧ 2 ≤ t.ofs.toNat ∧ t.ofs < t.spb ∧ t.half ≤ t.ofs ∧ t.spb.toNat < stc

/-- STOP in Acquire or Run performs END (R124, R125). -/
def Obligations.StopEndsTheRun : Prop :=
  ∀ (s : State) (ms : List HostMove), s.fault = none → s.host = .stop :: ms →
    (s.phase = .acquire ∨ s.phase = .run) →
    step s = .next { s with
      phase := .done, pending := none, host := ms
      out := s.out ++ (if s.params.flushPendingAtEnd then s.pending.toList else []) }

/-- A host operation that is not enabled has no effect (R127, decision D35): START and the configuration
during a run, STOP outside one. Using up the move in the list is the model's own (log entry 4). -/
def Obligations.MovesNotEnabledHaveNoEffect : Prop :=
  ∀ (s : State) (m : HostMove) (ms : List HostMove), s.fault = none → s.host = m :: ms →
    (m = .stop ∧ (s.phase = .idle ∨ s.phase = .done) ∨
      m ≠ .stop ∧ m ≠ .pass ∧ (s.phase = .acquire ∨ s.phase = .run)) →
    step s = .next { s with host := ms }

/-- The host writes the configuration registers while no run is active (R10 to R13, R127), each write
changing that register alone. -/
def Obligations.HostWritesTheConfiguration : Prop :=
  ∀ (s : State) (ms : List HostMove), s.fault = none → (s.phase = .idle ∨ s.phase = .done) →
    (∀ v, step { s with host := .writeBitRate v :: ms } =
      .next { s with cfg := { s.cfg with bitRate := v }, host := ms }) ∧
    (∀ v, step { s with host := .writeSampleRate v :: ms } =
      .next { s with cfg := { s.cfg with sampleRate := v }, host := ms }) ∧
    (∀ v, step { s with host := .writeIdleDrop v :: ms } =
      .next { s with cfg := { s.cfg with idleDrop := v }, host := ms }) ∧
    (∀ v, step { s with host := .writeChannel v :: ms } =
      .next { s with cfg := { s.cfg with channel := v }, host := ms }) ∧
    (∀ c, c.wf = true → step { s with host := .bindWaveform c :: ms } =
      .next { s with chan := c, host := ms })

/-- The block keeps all its state while it is idle (R140). That a step there answers the same state is the
model's own (log entry 5). -/
def Obligations.RestingCoreKeepsItsState : Prop :=
  ∀ s : State, CoreMoves s → (s.phase = .idle ∨ s.phase = .done) → step s = .next s

/-- The reset state is what START makes of the created machine (R150, R151) under the configuration the
model chose (log entry 1). -/
def Obligations.ResetIsStartOfTheCreatedMachine : Prop :=
  State.created.phase = .idle ∧ State.created.fault = none ∧
  step { State.created with
    cfg := { bitRate := 1, sampleRate := 4, idleDrop := false, channel := 0 }, host := [.start] } =
    .next State.reset

/-! ### Invariants, progress and the end of a run -/

/-- Every invariant holds at the reset state. -/
def Obligations.ResetSatisfiesTheInvariants : Prop :=
  WindowInv State.reset ∧ PendingInv State.reset ∧ RunInv State.reset ∧ OutputInv State.reset

/-- Every step keeps the window's invariant (R17, R18, R21, R84). -/
def Obligations.StepKeepsTheWindowInvariant : Prop :=
  ∀ s t : State, WindowInv s → step s = .next t → WindowInv t

/-- Every step keeps the invariant of `PENDING` (R22). -/
def Obligations.StepKeepsThePendingInvariant : Prop :=
  ∀ s t : State, PendingInv s → step s = .next t → PendingInv t

/-- Every step keeps the invariant of the run's constants and the bit centres (R14, R40, R72, R86). -/
def Obligations.StepKeepsTheRunInvariant : Prop :=
  ∀ s t : State, RunInv s → step s = .next t → RunInv t

/-- Every step keeps every emitted and held record true to the table and the disparity rule (R101, R110,
R111). -/
def Obligations.StepKeepsTheOutputSound : Prop :=
  ∀ s t : State, OutputInv s → step s = .next t → OutputInv t

/-- A machine with no fault recorded always steps: ordinary data never stops it (R122, R126). In Idle and
Done with no move enabled R126 has no step at all; that the model's step answers a next state there is
the model's own (log entry 5). -/
def Obligations.UnfaultedMachineAlwaysSteps : Prop :=
  ∀ s : State, WindowInv s → s.fault = none → Safe (step s)

/-- A run ends after finitely many steps (R128): in `PHASE = Done`, or in a state with a fault recorded. -/
def Obligations.EveryRunEnds : Prop :=
  ∀ s : State, WindowInv s → RunInv s → CoreMoves s → atRest s = false →
    ∃ (n : Nat) (t : State), Host.Core.run core n s = .next t ∧ (t.phase = .done ∨ t.fault ≠ none)
end

