-- ==== Sys2Proof/Laws/Decode.lean ====
section
/-! SUPPORT. What the decoder reads from a codeword: a well-formed instruction, whose encoding is that
codeword. -/

namespace Sys2Proof

/-- The instruction is not the default row. -/
def Instr.isTableRow : Instr → Bool
  | .invalid _ => false
  | _ => true

theorem Instr.wellFormed_of_isTableRow {i : Instr} (h : i.isTableRow = true) : i.WellFormed := by
  cases i <;> first | rfl | cases h

theorem encode_decode_checked :
    (List.range 1024).all (fun n =>
      Nat.beq (encode (decode (BitVec.ofNat 10 n))).toNat (BitVec.ofNat 10 n).toNat) = true := by
  decide +kernel

/-- Encoding what the decoder reads gives the codeword back, on all 1024 of them. -/
theorem encode_decode_word (w : Codeword) : encode (decode w) = w := by
  have h := List.all_eq_true.mp encode_decode_checked w.toNat (List.mem_range.mpr w.isLt)
  rw [BitVec.ofNat_toNat, BitVec.setWidth_eq] at h
  exact BitVec.eq_of_toNat_eq (Nat.eq_of_beq_eq_true h)

theorem decode_listed_checked :
    Machine.listing.all (fun r =>
      (decode r.minus).isTableRow && (decode r.plus).isTableRow) = true := by decide +kernel

/-- A codeword the table holds stands in a row of the listing. -/
theorem Machine.mem_listing_of_rom {w : Codeword} (h : Machine.rom w ≠ .miss) :
    ∃ r ∈ Machine.listing, w = r.minus ∨ w = r.plus := by
  unfold Machine.rom Machine.rowOf at h
  split at h
  · rename_i r hr
    refine ⟨r, List.mem_of_find?_eq_some hr, ?_⟩
    have := List.find?_some hr
    simp only [Machine.ListingRow.holds, Bool.or_eq_true] at this
    obtain e | e := this
    · exact .inl (BitVec.eq_of_toNat_eq (Nat.eq_of_beq_eq_true e)).symm
    · exact .inr (BitVec.eq_of_toNat_eq (Nat.eq_of_beq_eq_true e)).symm
  · exact absurd rfl h

/-- A codeword the table holds decodes to its row. -/
theorem decode_isTableRow {w : Codeword} (h : Machine.rom w ≠ .miss) :
    (decode w).isTableRow = true := by
  obtain ⟨r, hr, hw⟩ := Machine.mem_listing_of_rom h
  have := List.all_eq_true.mp decode_listed_checked r hr
  rw [Bool.and_eq_true] at this
  obtain rfl | rfl := hw
  · exact this.1
  · exact this.2

/-- A codeword that decodes to the default row decodes to it with itself as the operand. -/
theorem decode_eq_invalid {w v : Codeword} (h : decode w = .invalid v) : v = w := by
  have := encode_decode_word w
  rw [h] at this
  exact this

/-- The decoder reads a well-formed instruction from every codeword. -/
theorem decode_wellFormed (w : Codeword) : (decode w).WellFormed := by
  by_cases h : Machine.rom w = .miss
  · cases hd : decode w
    case invalid v =>
      rw [decode_eq_invalid hd]
      simp [Instr.WellFormed, Instr.wellFormed, h]
    all_goals rfl
  · exact Instr.wellFormed_of_isTableRow (decode_isTableRow h)

end Sys2Proof
end

