-- ==== Sys2Proof/Laws/State.lean ====
section
/-! SUPPORT. One lemma per field for each operation that is a record update. -/

namespace Sys2Proof.Machine

@[simp] theorem setFault_cfg (f : ModelFault) (s : State) : (setFault f s).cfg = s.cfg := rfl
@[simp] theorem setFault_tim (f : ModelFault) (s : State) : (setFault f s).tim = s.tim := rfl
@[simp] theorem setFault_phase (f : ModelFault) (s : State) : (setFault f s).phase = s.phase := rfl
@[simp] theorem setFault_cur (f : ModelFault) (s : State) : (setFault f s).cur = s.cur := rfl
@[simp] theorem setFault_win (f : ModelFault) (s : State) : (setFault f s).win = s.win := rfl
@[simp] theorem setFault_wlen (f : ModelFault) (s : State) : (setFault f s).wlen = s.wlen := rfl
@[simp] theorem setFault_idxq (f : ModelFault) (s : State) : (setFault f s).idxq = s.idxq := rfl
@[simp] theorem setFault_sync (f : ModelFault) (s : State) : (setFault f s).sync = s.sync := rfl
@[simp] theorem setFault_rd (f : ModelFault) (s : State) : (setFault f s).rd = s.rd := rfl
@[simp] theorem setFault_first (f : ModelFault) (s : State) : (setFault f s).first = s.first := rfl
@[simp] theorem setFault_pending (f : ModelFault) (s : State) : (setFault f s).pending = s.pending := rfl
@[simp] theorem setFault_out (f : ModelFault) (s : State) : (setFault f s).out = s.out := rfl
@[simp] theorem setFault_fault (f : ModelFault) (s : State) : (setFault f s).fault = some f := rfl
@[simp] theorem setFault_params (f : ModelFault) (s : State) : (setFault f s).params = s.params := rfl
@[simp] theorem setFault_chan (f : ModelFault) (s : State) : (setFault f s).chan = s.chan := rfl
@[simp] theorem setFault_host (f : ModelFault) (s : State) : (setFault f s).host = s.host := rfl

@[simp] theorem shiftIn_cfg (b : Bool) (s : State) : (shiftIn b s).cfg = s.cfg := rfl
@[simp] theorem shiftIn_tim (b : Bool) (s : State) : (shiftIn b s).tim = s.tim := rfl
@[simp] theorem shiftIn_phase (b : Bool) (s : State) : (shiftIn b s).phase = s.phase := rfl
@[simp] theorem shiftIn_cur (b : Bool) (s : State) : (shiftIn b s).cur = s.cur := rfl
@[simp] theorem shiftIn_win (b : Bool) (s : State) : (shiftIn b s).win = (s.win <<< 1) ||| (BitVec.ofBool b).setWidth 10 := rfl
@[simp] theorem shiftIn_wlen (b : Bool) (s : State) : (shiftIn b s).wlen = min (s.wlen + 1) 10 := rfl
@[simp] theorem shiftIn_idxq (b : Bool) (s : State) : (shiftIn b s).idxq = s.idxq := rfl
@[simp] theorem shiftIn_sync (b : Bool) (s : State) : (shiftIn b s).sync = s.sync := rfl
@[simp] theorem shiftIn_rd (b : Bool) (s : State) : (shiftIn b s).rd = s.rd := rfl
@[simp] theorem shiftIn_first (b : Bool) (s : State) : (shiftIn b s).first = s.first := rfl
@[simp] theorem shiftIn_pending (b : Bool) (s : State) : (shiftIn b s).pending = s.pending := rfl
@[simp] theorem shiftIn_out (b : Bool) (s : State) : (shiftIn b s).out = s.out := rfl
@[simp] theorem shiftIn_fault (b : Bool) (s : State) : (shiftIn b s).fault = s.fault := rfl
@[simp] theorem shiftIn_params (b : Bool) (s : State) : (shiftIn b s).params = s.params := rfl
@[simp] theorem shiftIn_chan (b : Bool) (s : State) : (shiftIn b s).chan = s.chan := rfl
@[simp] theorem shiftIn_host (b : Bool) (s : State) : (shiftIn b s).host = s.host := rfl

@[simp] theorem queueIn_cfg (i : SampleIdx) (s : State) : (queueIn i s).cfg = s.cfg := rfl
@[simp] theorem queueIn_tim (i : SampleIdx) (s : State) : (queueIn i s).tim = s.tim := rfl
@[simp] theorem queueIn_phase (i : SampleIdx) (s : State) : (queueIn i s).phase = s.phase := rfl
@[simp] theorem queueIn_cur (i : SampleIdx) (s : State) : (queueIn i s).cur = s.cur := rfl
@[simp] theorem queueIn_win (i : SampleIdx) (s : State) : (queueIn i s).win = s.win := rfl
@[simp] theorem queueIn_wlen (i : SampleIdx) (s : State) : (queueIn i s).wlen = s.wlen := rfl
@[simp] theorem queueIn_idxq (i : SampleIdx) (s : State) : (queueIn i s).idxq = (i :: s.idxq).take 10 := rfl
@[simp] theorem queueIn_sync (i : SampleIdx) (s : State) : (queueIn i s).sync = s.sync := rfl
@[simp] theorem queueIn_rd (i : SampleIdx) (s : State) : (queueIn i s).rd = s.rd := rfl
@[simp] theorem queueIn_first (i : SampleIdx) (s : State) : (queueIn i s).first = s.first := rfl
@[simp] theorem queueIn_pending (i : SampleIdx) (s : State) : (queueIn i s).pending = s.pending := rfl
@[simp] theorem queueIn_out (i : SampleIdx) (s : State) : (queueIn i s).out = s.out := rfl
@[simp] theorem queueIn_fault (i : SampleIdx) (s : State) : (queueIn i s).fault = s.fault := rfl
@[simp] theorem queueIn_params (i : SampleIdx) (s : State) : (queueIn i s).params = s.params := rfl
@[simp] theorem queueIn_chan (i : SampleIdx) (s : State) : (queueIn i s).chan = s.chan := rfl
@[simp] theorem queueIn_host (i : SampleIdx) (s : State) : (queueIn i s).host = s.host := rfl

@[simp] theorem clearWindow_cfg (s : State) : (clearWindow s).cfg = s.cfg := rfl
@[simp] theorem clearWindow_tim (s : State) : (clearWindow s).tim = s.tim := rfl
@[simp] theorem clearWindow_phase (s : State) : (clearWindow s).phase = s.phase := rfl
@[simp] theorem clearWindow_cur (s : State) : (clearWindow s).cur = s.cur := rfl
@[simp] theorem clearWindow_win (s : State) : (clearWindow s).win = 0 := rfl
@[simp] theorem clearWindow_wlen (s : State) : (clearWindow s).wlen = 0 := rfl
@[simp] theorem clearWindow_idxq (s : State) : (clearWindow s).idxq = [] := rfl
@[simp] theorem clearWindow_sync (s : State) : (clearWindow s).sync = s.sync := rfl
@[simp] theorem clearWindow_rd (s : State) : (clearWindow s).rd = s.rd := rfl
@[simp] theorem clearWindow_first (s : State) : (clearWindow s).first = s.first := rfl
@[simp] theorem clearWindow_pending (s : State) : (clearWindow s).pending = s.pending := rfl
@[simp] theorem clearWindow_out (s : State) : (clearWindow s).out = s.out := rfl
@[simp] theorem clearWindow_fault (s : State) : (clearWindow s).fault = s.fault := rfl
@[simp] theorem clearWindow_params (s : State) : (clearWindow s).params = s.params := rfl
@[simp] theorem clearWindow_chan (s : State) : (clearWindow s).chan = s.chan := rfl
@[simp] theorem clearWindow_host (s : State) : (clearWindow s).host = s.host := rfl

@[simp] theorem emit_cfg (r : SymbolRecord) (s : State) : (emit r s).cfg = s.cfg := rfl
@[simp] theorem emit_tim (r : SymbolRecord) (s : State) : (emit r s).tim = s.tim := rfl
@[simp] theorem emit_phase (r : SymbolRecord) (s : State) : (emit r s).phase = s.phase := rfl
@[simp] theorem emit_cur (r : SymbolRecord) (s : State) : (emit r s).cur = s.cur := rfl
@[simp] theorem emit_win (r : SymbolRecord) (s : State) : (emit r s).win = s.win := rfl
@[simp] theorem emit_wlen (r : SymbolRecord) (s : State) : (emit r s).wlen = s.wlen := rfl
@[simp] theorem emit_idxq (r : SymbolRecord) (s : State) : (emit r s).idxq = s.idxq := rfl
@[simp] theorem emit_sync (r : SymbolRecord) (s : State) : (emit r s).sync = s.sync := rfl
@[simp] theorem emit_rd (r : SymbolRecord) (s : State) : (emit r s).rd = s.rd := rfl
@[simp] theorem emit_first (r : SymbolRecord) (s : State) : (emit r s).first = s.first := rfl
@[simp] theorem emit_pending (r : SymbolRecord) (s : State) : (emit r s).pending = s.pending := rfl
@[simp] theorem emit_out (r : SymbolRecord) (s : State) : (emit r s).out = s.out ++ [r] := rfl
@[simp] theorem emit_fault (r : SymbolRecord) (s : State) : (emit r s).fault = s.fault := rfl
@[simp] theorem emit_params (r : SymbolRecord) (s : State) : (emit r s).params = s.params := rfl
@[simp] theorem emit_chan (r : SymbolRecord) (s : State) : (emit r s).chan = s.chan := rfl
@[simp] theorem emit_host (r : SymbolRecord) (s : State) : (emit r s).host = s.host := rfl

@[simp] theorem afterWindow_cfg (w : Codeword) (s : State) : (afterWindow w s).cfg = s.cfg := rfl
@[simp] theorem afterWindow_tim (w : Codeword) (s : State) : (afterWindow w s).tim = s.tim := rfl
@[simp] theorem afterWindow_phase (w : Codeword) (s : State) : (afterWindow w s).phase = s.phase := rfl
@[simp] theorem afterWindow_cur (w : Codeword) (s : State) : (afterWindow w s).cur = s.cur := rfl
@[simp] theorem afterWindow_win (w : Codeword) (s : State) : (afterWindow w s).win = 0 := rfl
@[simp] theorem afterWindow_wlen (w : Codeword) (s : State) : (afterWindow w s).wlen = 0 := rfl
@[simp] theorem afterWindow_idxq (w : Codeword) (s : State) : (afterWindow w s).idxq = [] := rfl
@[simp] theorem afterWindow_sync (w : Codeword) (s : State) : (afterWindow w s).sync = s.sync := rfl
@[simp] theorem afterWindow_rd (w : Codeword) (s : State) : (afterWindow w s).rd = rdAfter w s.rd := rfl
@[simp] theorem afterWindow_first (w : Codeword) (s : State) : (afterWindow w s).first = false := rfl
@[simp] theorem afterWindow_pending (w : Codeword) (s : State) : (afterWindow w s).pending = s.pending := rfl
@[simp] theorem afterWindow_out (w : Codeword) (s : State) : (afterWindow w s).out = s.out := rfl
@[simp] theorem afterWindow_fault (w : Codeword) (s : State) : (afterWindow w s).fault = s.fault := rfl
@[simp] theorem afterWindow_params (w : Codeword) (s : State) : (afterWindow w s).params = s.params := rfl
@[simp] theorem afterWindow_chan (w : Codeword) (s : State) : (afterWindow w s).chan = s.chan := rfl
@[simp] theorem afterWindow_host (w : Codeword) (s : State) : (afterWindow w s).host = s.host := rfl

@[simp] theorem resetContext_cfg (s : State) : (resetContext s).cfg = s.cfg := rfl
@[simp] theorem resetContext_tim (s : State) : (resetContext s).tim = deriveTiming s.cfg s.params.initialCenter := rfl
@[simp] theorem resetContext_phase (s : State) : (resetContext s).phase = .acquire := rfl
@[simp] theorem resetContext_cur (s : State) : (resetContext s).cur = s.params.captureStart := rfl
@[simp] theorem resetContext_win (s : State) : (resetContext s).win = 0 := rfl
@[simp] theorem resetContext_wlen (s : State) : (resetContext s).wlen = 0 := rfl
@[simp] theorem resetContext_idxq (s : State) : (resetContext s).idxq = [] := rfl
@[simp] theorem resetContext_sync (s : State) : (resetContext s).sync = .unsynchronized := rfl
@[simp] theorem resetContext_rd (s : State) : (resetContext s).rd = .negative := rfl
@[simp] theorem resetContext_first (s : State) : (resetContext s).first = true := rfl
@[simp] theorem resetContext_pending (s : State) : (resetContext s).pending = none := rfl
@[simp] theorem resetContext_out (s : State) : (resetContext s).out = [] := rfl
@[simp] theorem resetContext_fault (s : State) : (resetContext s).fault = s.fault := rfl
@[simp] theorem resetContext_params (s : State) : (resetContext s).params = s.params := rfl
@[simp] theorem resetContext_chan (s : State) : (resetContext s).chan = s.chan := rfl
@[simp] theorem resetContext_host (s : State) : (resetContext s).host = s.host := rfl

end Sys2Proof.Machine
end

