-- ==== Sys2Proof/Laws/Ops.lean ====
section
/-! SUPPORT. What the branching operations leave unchanged (one lemma per field), and for each shared
operation one lemma that says all it can do. -/

namespace Sys2Proof.Machine

@[simp] theorem holdOrEmit_cfg (r : SymbolRecord) (s : State) : (holdOrEmit r s).cfg = s.cfg := by
  unfold holdOrEmit; split <;> rfl
@[simp] theorem holdOrEmit_tim (r : SymbolRecord) (s : State) : (holdOrEmit r s).tim = s.tim := by
  unfold holdOrEmit; split <;> rfl
@[simp] theorem holdOrEmit_phase (r : SymbolRecord) (s : State) : (holdOrEmit r s).phase = s.phase := by
  unfold holdOrEmit; split <;> rfl
@[simp] theorem holdOrEmit_cur (r : SymbolRecord) (s : State) : (holdOrEmit r s).cur = s.cur := by
  unfold holdOrEmit; split <;> rfl
@[simp] theorem holdOrEmit_win (r : SymbolRecord) (s : State) : (holdOrEmit r s).win = s.win := by
  unfold holdOrEmit; split <;> rfl
@[simp] theorem holdOrEmit_wlen (r : SymbolRecord) (s : State) : (holdOrEmit r s).wlen = s.wlen := by
  unfold holdOrEmit; split <;> rfl
@[simp] theorem holdOrEmit_idxq (r : SymbolRecord) (s : State) : (holdOrEmit r s).idxq = s.idxq := by
  unfold holdOrEmit; split <;> rfl
@[simp] theorem holdOrEmit_sync (r : SymbolRecord) (s : State) : (holdOrEmit r s).sync = s.sync := by
  unfold holdOrEmit; split <;> rfl
@[simp] theorem holdOrEmit_rd (r : SymbolRecord) (s : State) : (holdOrEmit r s).rd = s.rd := by
  unfold holdOrEmit; split <;> rfl
@[simp] theorem holdOrEmit_first (r : SymbolRecord) (s : State) : (holdOrEmit r s).first = s.first := by
  unfold holdOrEmit; split <;> rfl
@[simp] theorem holdOrEmit_fault (r : SymbolRecord) (s : State) : (holdOrEmit r s).fault = s.fault := by
  unfold holdOrEmit; split <;> rfl
@[simp] theorem holdOrEmit_params (r : SymbolRecord) (s : State) : (holdOrEmit r s).params = s.params := by
  unfold holdOrEmit; split <;> rfl
@[simp] theorem holdOrEmit_chan (r : SymbolRecord) (s : State) : (holdOrEmit r s).chan = s.chan := by
  unfold holdOrEmit; split <;> rfl
@[simp] theorem holdOrEmit_host (r : SymbolRecord) (s : State) : (holdOrEmit r s).host = s.host := by
  unfold holdOrEmit; split <;> rfl

@[simp] theorem offer_cfg (r : SymbolRecord) (s : State) : (offer r s).cfg = s.cfg := by
  unfold offer; split <;> [skip; split] <;> simp
@[simp] theorem offer_tim (r : SymbolRecord) (s : State) : (offer r s).tim = s.tim := by
  unfold offer; split <;> [skip; split] <;> simp
@[simp] theorem offer_phase (r : SymbolRecord) (s : State) : (offer r s).phase = s.phase := by
  unfold offer; split <;> [skip; split] <;> simp
@[simp] theorem offer_cur (r : SymbolRecord) (s : State) : (offer r s).cur = s.cur := by
  unfold offer; split <;> [skip; split] <;> simp
@[simp] theorem offer_win (r : SymbolRecord) (s : State) : (offer r s).win = s.win := by
  unfold offer; split <;> [skip; split] <;> simp
@[simp] theorem offer_wlen (r : SymbolRecord) (s : State) : (offer r s).wlen = s.wlen := by
  unfold offer; split <;> [skip; split] <;> simp
@[simp] theorem offer_idxq (r : SymbolRecord) (s : State) : (offer r s).idxq = s.idxq := by
  unfold offer; split <;> [skip; split] <;> simp
@[simp] theorem offer_sync (r : SymbolRecord) (s : State) : (offer r s).sync = s.sync := by
  unfold offer; split <;> [skip; split] <;> simp
@[simp] theorem offer_rd (r : SymbolRecord) (s : State) : (offer r s).rd = s.rd := by
  unfold offer; split <;> [skip; split] <;> simp
@[simp] theorem offer_first (r : SymbolRecord) (s : State) : (offer r s).first = s.first := by
  unfold offer; split <;> [skip; split] <;> simp
@[simp] theorem offer_fault (r : SymbolRecord) (s : State) : (offer r s).fault = s.fault := by
  unfold offer; split <;> [skip; split] <;> simp
@[simp] theorem offer_params (r : SymbolRecord) (s : State) : (offer r s).params = s.params := by
  unfold offer; split <;> [skip; split] <;> simp
@[simp] theorem offer_chan (r : SymbolRecord) (s : State) : (offer r s).chan = s.chan := by
  unfold offer; split <;> [skip; split] <;> simp
@[simp] theorem offer_host (r : SymbolRecord) (s : State) : (offer r s).host = s.host := by
  unfold offer; split <;> [skip; split] <;> simp

@[simp] theorem deliver_cfg (r : SymbolRecord) (s : State) : (deliver r s).cfg = s.cfg := by
  unfold deliver; split <;> simp
@[simp] theorem deliver_tim (r : SymbolRecord) (s : State) : (deliver r s).tim = s.tim := by
  unfold deliver; split <;> simp
@[simp] theorem deliver_phase (r : SymbolRecord) (s : State) : (deliver r s).phase = s.phase := by
  unfold deliver; split <;> simp
@[simp] theorem deliver_cur (r : SymbolRecord) (s : State) : (deliver r s).cur = s.cur := by
  unfold deliver; split <;> simp
@[simp] theorem deliver_win (r : SymbolRecord) (s : State) : (deliver r s).win = s.win := by
  unfold deliver; split <;> simp
@[simp] theorem deliver_wlen (r : SymbolRecord) (s : State) : (deliver r s).wlen = s.wlen := by
  unfold deliver; split <;> simp
@[simp] theorem deliver_idxq (r : SymbolRecord) (s : State) : (deliver r s).idxq = s.idxq := by
  unfold deliver; split <;> simp
@[simp] theorem deliver_sync (r : SymbolRecord) (s : State) : (deliver r s).sync = s.sync := by
  unfold deliver; split <;> simp
@[simp] theorem deliver_rd (r : SymbolRecord) (s : State) : (deliver r s).rd = s.rd := by
  unfold deliver; split <;> simp
@[simp] theorem deliver_first (r : SymbolRecord) (s : State) : (deliver r s).first = s.first := by
  unfold deliver; split <;> simp
@[simp] theorem deliver_fault (r : SymbolRecord) (s : State) : (deliver r s).fault = s.fault := by
  unfold deliver; split <;> simp
@[simp] theorem deliver_params (r : SymbolRecord) (s : State) : (deliver r s).params = s.params := by
  unfold deliver; split <;> simp
@[simp] theorem deliver_chan (r : SymbolRecord) (s : State) : (deliver r s).chan = s.chan := by
  unfold deliver; split <;> simp
@[simp] theorem deliver_host (r : SymbolRecord) (s : State) : (deliver r s).host = s.host := by
  unfold deliver; split <;> simp

@[simp] theorem flushPending_cfg (s : State) : (flushPending s).cfg = s.cfg := by
  unfold flushPending; split <;> [rfl; (simp only []; split <;> rfl)]
@[simp] theorem flushPending_tim (s : State) : (flushPending s).tim = s.tim := by
  unfold flushPending; split <;> [rfl; (simp only []; split <;> rfl)]
@[simp] theorem flushPending_phase (s : State) : (flushPending s).phase = s.phase := by
  unfold flushPending; split <;> [rfl; (simp only []; split <;> rfl)]
@[simp] theorem flushPending_cur (s : State) : (flushPending s).cur = s.cur := by
  unfold flushPending; split <;> [rfl; (simp only []; split <;> rfl)]
@[simp] theorem flushPending_win (s : State) : (flushPending s).win = s.win := by
  unfold flushPending; split <;> [rfl; (simp only []; split <;> rfl)]
@[simp] theorem flushPending_wlen (s : State) : (flushPending s).wlen = s.wlen := by
  unfold flushPending; split <;> [rfl; (simp only []; split <;> rfl)]
@[simp] theorem flushPending_idxq (s : State) : (flushPending s).idxq = s.idxq := by
  unfold flushPending; split <;> [rfl; (simp only []; split <;> rfl)]
@[simp] theorem flushPending_sync (s : State) : (flushPending s).sync = s.sync := by
  unfold flushPending; split <;> [rfl; (simp only []; split <;> rfl)]
@[simp] theorem flushPending_rd (s : State) : (flushPending s).rd = s.rd := by
  unfold flushPending; split <;> [rfl; (simp only []; split <;> rfl)]
@[simp] theorem flushPending_first (s : State) : (flushPending s).first = s.first := by
  unfold flushPending; split <;> [rfl; (simp only []; split <;> rfl)]
@[simp] theorem flushPending_fault (s : State) : (flushPending s).fault = s.fault := by
  unfold flushPending; split <;> [rfl; (simp only []; split <;> rfl)]
@[simp] theorem flushPending_params (s : State) : (flushPending s).params = s.params := by
  unfold flushPending; split <;> [rfl; (simp only []; split <;> rfl)]
@[simp] theorem flushPending_chan (s : State) : (flushPending s).chan = s.chan := by
  unfold flushPending; split <;> [rfl; (simp only []; split <;> rfl)]
@[simp] theorem flushPending_host (s : State) : (flushPending s).host = s.host := by
  unfold flushPending; split <;> [rfl; (simp only []; split <;> rfl)]

@[simp] theorem endRun_cfg (s : State) : (endRun s).cfg = s.cfg := by
  simp [endRun]
@[simp] theorem endRun_tim (s : State) : (endRun s).tim = s.tim := by
  simp [endRun]
@[simp] theorem endRun_cur (s : State) : (endRun s).cur = s.cur := by
  simp [endRun]
@[simp] theorem endRun_win (s : State) : (endRun s).win = s.win := by
  simp [endRun]
@[simp] theorem endRun_wlen (s : State) : (endRun s).wlen = s.wlen := by
  simp [endRun]
@[simp] theorem endRun_idxq (s : State) : (endRun s).idxq = s.idxq := by
  simp [endRun]
@[simp] theorem endRun_sync (s : State) : (endRun s).sync = s.sync := by
  simp [endRun]
@[simp] theorem endRun_rd (s : State) : (endRun s).rd = s.rd := by
  simp [endRun]
@[simp] theorem endRun_first (s : State) : (endRun s).first = s.first := by
  simp [endRun]
@[simp] theorem endRun_fault (s : State) : (endRun s).fault = s.fault := by
  simp [endRun]
@[simp] theorem endRun_params (s : State) : (endRun s).params = s.params := by
  simp [endRun]
@[simp] theorem endRun_chan (s : State) : (endRun s).chan = s.chan := by
  simp [endRun]
@[simp] theorem endRun_host (s : State) : (endRun s).host = s.host := by
  simp [endRun]

@[simp] theorem lockOnComma_cfg (s : State) : (lockOnComma s).cfg = s.cfg := by
  unfold lockOnComma; split <;> rfl
@[simp] theorem lockOnComma_tim (s : State) : (lockOnComma s).tim = s.tim := by
  unfold lockOnComma; split <;> rfl
@[simp] theorem lockOnComma_phase (s : State) : (lockOnComma s).phase = s.phase := by
  unfold lockOnComma; split <;> rfl
@[simp] theorem lockOnComma_cur (s : State) : (lockOnComma s).cur = s.cur := by
  unfold lockOnComma; split <;> rfl
@[simp] theorem lockOnComma_win (s : State) : (lockOnComma s).win = s.win := by
  unfold lockOnComma; split <;> rfl
@[simp] theorem lockOnComma_wlen (s : State) : (lockOnComma s).wlen = s.wlen := by
  unfold lockOnComma; split <;> rfl
@[simp] theorem lockOnComma_idxq (s : State) : (lockOnComma s).idxq = s.idxq := by
  unfold lockOnComma; split <;> rfl
@[simp] theorem lockOnComma_rd (s : State) : (lockOnComma s).rd = s.rd := by
  unfold lockOnComma; split <;> rfl
@[simp] theorem lockOnComma_first (s : State) : (lockOnComma s).first = s.first := by
  unfold lockOnComma; split <;> rfl
@[simp] theorem lockOnComma_pending (s : State) : (lockOnComma s).pending = s.pending := by
  unfold lockOnComma; split <;> rfl
@[simp] theorem lockOnComma_out (s : State) : (lockOnComma s).out = s.out := by
  unfold lockOnComma; split <;> rfl
@[simp] theorem lockOnComma_fault (s : State) : (lockOnComma s).fault = s.fault := by
  unfold lockOnComma; split <;> rfl
@[simp] theorem lockOnComma_params (s : State) : (lockOnComma s).params = s.params := by
  unfold lockOnComma; split <;> rfl
@[simp] theorem lockOnComma_chan (s : State) : (lockOnComma s).chan = s.chan := by
  unfold lockOnComma; split <;> rfl
@[simp] theorem lockOnComma_host (s : State) : (lockOnComma s).host = s.host := by
  unfold lockOnComma; split <;> rfl

@[simp] theorem pushBit_cfg (s : State) : (pushBit s).cfg = s.cfg := by
  simp [pushBit]
@[simp] theorem pushBit_tim (s : State) : (pushBit s).tim = s.tim := by
  simp [pushBit]
@[simp] theorem pushBit_phase (s : State) : (pushBit s).phase = s.phase := by
  simp [pushBit]
@[simp] theorem pushBit_cur (s : State) : (pushBit s).cur = s.cur := by
  simp [pushBit]
@[simp] theorem pushBit_rd (s : State) : (pushBit s).rd = s.rd := by
  simp [pushBit]
@[simp] theorem pushBit_first (s : State) : (pushBit s).first = s.first := by
  simp [pushBit]
@[simp] theorem pushBit_pending (s : State) : (pushBit s).pending = s.pending := by
  simp [pushBit]
@[simp] theorem pushBit_out (s : State) : (pushBit s).out = s.out := by
  simp [pushBit]
@[simp] theorem pushBit_fault (s : State) : (pushBit s).fault = s.fault := by
  simp [pushBit]
@[simp] theorem pushBit_params (s : State) : (pushBit s).params = s.params := by
  simp [pushBit]
@[simp] theorem pushBit_chan (s : State) : (pushBit s).chan = s.chan := by
  simp [pushBit]
@[simp] theorem pushBit_host (s : State) : (pushBit s).host = s.host := by
  simp [pushBit]

@[simp] theorem endRun_phase (s : State) : (endRun s).phase = .done := rfl

@[simp] theorem flushPending_pending (s : State) : (flushPending s).pending = none := by
  unfold flushPending; split <;> simp_all

@[simp] theorem endRun_pending (s : State) : (endRun s).pending = none := by simp [endRun]

/-- What END emits: the held K28.5 when the parameter says so (R115). -/
theorem flushPending_out (s : State) :
    (flushPending s).out =
      s.out ++ (if s.params.flushPendingAtEnd then s.pending.toList else []) := by
  unfold flushPending; split <;> rename_i h <;> simp [h]
  split <;> simp

@[simp] theorem endRun_out (s : State) :
    (endRun s).out =
      s.out ++ (if s.params.flushPendingAtEnd then s.pending.toList else []) :=
  flushPending_out s

/-- `holdOrEmit` puts the record in `PENDING` or at the end of `OUT`. -/
theorem holdOrEmit_cases (r : SymbolRecord) (s : State) :
    (isComma r = true ∧ holdOrEmit r s = { s with pending := some r }) ∨
      (isComma r = false ∧ holdOrEmit r s = emit r s) := by
  unfold holdOrEmit; split <;> simp_all

/-- All `deliver` can do: emit (suppression off); drop an idle pair; or emit a held record, if there is
one, and then hold or emit the new one. -/
theorem deliver_cases (r : SymbolRecord) (s : State) :
    (s.cfg.idleDrop = false ∧ deliver r s = { s with out := s.out ++ [r] }) ∨
    (s.cfg.idleDrop = true ∧ isIdleData r = true ∧ s.pending.isSome ∧
      deliver r s = { s with pending := none }) ∨
    (s.cfg.idleDrop = true ∧ (isIdleData r = false ∨ s.pending = none) ∧ isComma r = true ∧
      deliver r s = { s with pending := some r, out := s.out ++ s.pending.toList }) ∨
    (s.cfg.idleDrop = true ∧ (isIdleData r = false ∨ s.pending = none) ∧ isComma r = false ∧
      deliver r s = { s with pending := none, out := s.out ++ s.pending.toList ++ [r] }) := by
  obtain h | h := Bool.eq_false_or_eq_true s.cfg.idleDrop
  · obtain c | c := Bool.eq_false_or_eq_true (isComma r) <;>
      obtain d | d := Bool.eq_false_or_eq_true (isIdleData r) <;>
      cases p : s.pending <;>
      simp [deliver, offer, holdOrEmit, emit, h, c, d, p]
  · exact .inl ⟨h, by simp [deliver, emit, h]⟩

/-- A decode cycle on a full window whose span fits is one next state (R123). -/
theorem decodeCycle_next {w : Codeword} {e : RomEntry} {s : State} (hw : windowFull s = true)
    (hf : spanFits (centre s 0) s.tim.half = true) :
    decodeCycle w e s = .next (deliver (cycleRecord w e s) (afterWindow w s)) := by
  simp [decodeCycle, hw, hf]

/-- All a decode cycle can do. -/
theorem decodeCycle_cases (w : Codeword) (e : RomEntry) (s : State) :
    (windowFull s = true ∧ spanFits (centre s 0) s.tim.half = true ∧
      decodeCycle w e s = .next (deliver (cycleRecord w e s) (afterWindow w s))) ∨
    (windowFull s = true ∧ spanFits (centre s 0) s.tim.half = false ∧
      decodeCycle w e s =
        .next (setFault (.cursorOverflow (centre s 0) s.tim.half.toNat) s)) ∨
    (windowFull s = false ∧ decodeCycle w e s = .fault .windowNotFull) := by
  unfold decodeCycle raise
  cases windowFull s <;> cases spanFits (centre s 0) s.tim.half <;> simp

/-- What `commit` makes of a next state that holds no fault. -/
theorem commit_next {base t : State} (h : t.fault = none) : commit base (.next t) = .next t := by
  simp [commit, h]

/-- What `commit` makes of a next state that holds a fault. -/
theorem commit_fault {base t : State} {f : ModelFault} (h : t.fault = some f) :
    commit base (.next t) = .next (setFault f base) := by simp [commit, raise, h]

end Sys2Proof.Machine
end

