-- ==== Sys2Proof/Laws/PerInstr.lean ====
section
/-! SUPPORT. The family RomRow: for every instruction, the table holds at its encoding the entry its
row of spec/opcode_table.json gives (42_codeword_lookup_table.md R91 to R94). -/

namespace Sys2Proof.Laws

/-- The table entry of an instruction's row: its fields value (as x and y), is_k and dclass. -/
def RomRow.entry : Instr → RomEntry
  | .invalid _ => .miss
  | .d0_0_pos => .hit 0x00 false .positive
  | .d0_0_neg => .hit 0x00 false .negative
  | .d1_0_pos => .hit 0x01 false .positive
  | .d1_0_neg => .hit 0x01 false .negative
  | .d2_0_pos => .hit 0x02 false .positive
  | .d2_0_neg => .hit 0x02 false .negative
  | .d3_0_pos => .hit 0x03 false .positive
  | .d3_0_neg => .hit 0x03 false .negative
  | .d4_0_pos => .hit 0x04 false .positive
  | .d4_0_neg => .hit 0x04 false .negative
  | .d5_0_pos => .hit 0x05 false .positive
  | .d5_0_neg => .hit 0x05 false .negative
  | .d6_0_pos => .hit 0x06 false .positive
  | .d6_0_neg => .hit 0x06 false .negative
  | .d7_0_pos => .hit 0x07 false .positive
  | .d7_0_neg => .hit 0x07 false .negative
  | .d8_0_pos => .hit 0x08 false .positive
  | .d8_0_neg => .hit 0x08 false .negative
  | .d9_0_pos => .hit 0x09 false .positive
  | .d9_0_neg => .hit 0x09 false .negative
  | .d10_0_pos => .hit 0x0A false .positive
  | .d10_0_neg => .hit 0x0A false .negative
  | .d11_0_pos => .hit 0x0B false .positive
  | .d11_0_neg => .hit 0x0B false .negative
  | .d12_0_pos => .hit 0x0C false .positive
  | .d12_0_neg => .hit 0x0C false .negative
  | .d13_0_pos => .hit 0x0D false .positive
  | .d13_0_neg => .hit 0x0D false .negative
  | .d14_0_pos => .hit 0x0E false .positive
  | .d14_0_neg => .hit 0x0E false .negative
  | .d15_0_pos => .hit 0x0F false .positive
  | .d15_0_neg => .hit 0x0F false .negative
  | .d16_0_pos => .hit 0x10 false .positive
  | .d16_0_neg => .hit 0x10 false .negative
  | .d17_0_pos => .hit 0x11 false .positive
  | .d17_0_neg => .hit 0x11 false .negative
  | .d18_0_pos => .hit 0x12 false .positive
  | .d18_0_neg => .hit 0x12 false .negative
  | .d19_0_pos => .hit 0x13 false .positive
  | .d19_0_neg => .hit 0x13 false .negative
  | .d20_0_pos => .hit 0x14 false .positive
  | .d20_0_neg => .hit 0x14 false .negative
  | .d21_0_pos => .hit 0x15 false .positive
  | .d21_0_neg => .hit 0x15 false .negative
  | .d22_0_pos => .hit 0x16 false .positive
  | .d22_0_neg => .hit 0x16 false .negative
  | .d23_0_pos => .hit 0x17 false .positive
  | .d23_0_neg => .hit 0x17 false .negative
  | .d24_0_pos => .hit 0x18 false .positive
  | .d24_0_neg => .hit 0x18 false .negative
  | .d25_0_pos => .hit 0x19 false .positive
  | .d25_0_neg => .hit 0x19 false .negative
  | .d26_0_pos => .hit 0x1A false .positive
  | .d26_0_neg => .hit 0x1A false .negative
  | .d27_0_pos => .hit 0x1B false .positive
  | .d27_0_neg => .hit 0x1B false .negative
  | .d28_0_pos => .hit 0x1C false .positive
  | .d28_0_neg => .hit 0x1C false .negative
  | .d29_0_pos => .hit 0x1D false .positive
  | .d29_0_neg => .hit 0x1D false .negative
  | .d30_0_pos => .hit 0x1E false .positive
  | .d30_0_neg => .hit 0x1E false .negative
  | .d31_0_pos => .hit 0x1F false .positive
  | .d31_0_neg => .hit 0x1F false .negative
  | .d0_1_pos => .hit 0x20 false .positive
  | .d0_1_neg => .hit 0x20 false .negative
  | .d1_1_pos => .hit 0x21 false .positive
  | .d1_1_neg => .hit 0x21 false .negative
  | .d2_1_pos => .hit 0x22 false .positive
  | .d2_1_neg => .hit 0x22 false .negative
  | .d3_1 => .hit 0x23 false .neutral
  | .d4_1_pos => .hit 0x24 false .positive
  | .d4_1_neg => .hit 0x24 false .negative
  | .d5_1 => .hit 0x25 false .neutral
  | .d6_1 => .hit 0x26 false .neutral
  | .d7_1_pos => .hit 0x27 false .positive
  | .d7_1_neg => .hit 0x27 false .negative
  | .d8_1_pos => .hit 0x28 false .positive
  | .d8_1_neg => .hit 0x28 false .negative
  | .d9_1 => .hit 0x29 false .neutral
  | .d10_1 => .hit 0x2A false .neutral
  | .d11_1 => .hit 0x2B false .neutral
  | .d12_1 => .hit 0x2C false .neutral
  | .d13_1 => .hit 0x2D false .neutral
  | .d14_1 => .hit 0x2E false .neutral
  | .d15_1_pos => .hit 0x2F false .positive
  | .d15_1_neg => .hit 0x2F false .negative
  | .d16_1_pos => .hit 0x30 false .positive
  | .d16_1_neg => .hit 0x30 false .negative
  | .d17_1 => .hit 0x31 false .neutral
  | .d18_1 => .hit 0x32 false .neutral
  | .d19_1 => .hit 0x33 false .neutral
  | .d20_1 => .hit 0x34 false .neutral
  | .d21_1 => .hit 0x35 false .neutral
  | .d22_1 => .hit 0x36 false .neutral
  | .d23_1_pos => .hit 0x37 false .positive
  | .d23_1_neg => .hit 0x37 false .negative
  | .d24_1_pos => .hit 0x38 false .positive
  | .d24_1_neg => .hit 0x38 false .negative
  | .d25_1 => .hit 0x39 false .neutral
  | .d26_1 => .hit 0x3A false .neutral
  | .d27_1_pos => .hit 0x3B false .positive
  | .d27_1_neg => .hit 0x3B false .negative
  | .d28_1 => .hit 0x3C false .neutral
  | .d29_1_pos => .hit 0x3D false .positive
  | .d29_1_neg => .hit 0x3D false .negative
  | .d30_1_pos => .hit 0x3E false .positive
  | .d30_1_neg => .hit 0x3E false .negative
  | .d31_1_pos => .hit 0x3F false .positive
  | .d31_1_neg => .hit 0x3F false .negative
  | .d0_2_pos => .hit 0x40 false .positive
  | .d0_2_neg => .hit 0x40 false .negative
  | .d1_2_pos => .hit 0x41 false .positive
  | .d1_2_neg => .hit 0x41 false .negative
  | .d2_2_pos => .hit 0x42 false .positive
  | .d2_2_neg => .hit 0x42 false .negative
  | .d3_2 => .hit 0x43 false .neutral
  | .d4_2_pos => .hit 0x44 false .positive
  | .d4_2_neg => .hit 0x44 false .negative
  | .d5_2 => .hit 0x45 false .neutral
  | .d6_2 => .hit 0x46 false .neutral
  | .d7_2_pos => .hit 0x47 false .positive
  | .d7_2_neg => .hit 0x47 false .negative
  | .d8_2_pos => .hit 0x48 false .positive
  | .d8_2_neg => .hit 0x48 false .negative
  | .d9_2 => .hit 0x49 false .neutral
  | .d10_2 => .hit 0x4A false .neutral
  | .d11_2 => .hit 0x4B false .neutral
  | .d12_2 => .hit 0x4C false .neutral
  | .d13_2 => .hit 0x4D false .neutral
  | .d14_2 => .hit 0x4E false .neutral
  | .d15_2_pos => .hit 0x4F false .positive
  | .d15_2_neg => .hit 0x4F false .negative
  | .d16_2_pos => .hit 0x50 false .positive
  | .d16_2_neg => .hit 0x50 false .negative
  | .d17_2 => .hit 0x51 false .neutral
  | .d18_2 => .hit 0x52 false .neutral
  | .d19_2 => .hit 0x53 false .neutral
  | .d20_2 => .hit 0x54 false .neutral
  | .d21_2 => .hit 0x55 false .neutral
  | .d22_2 => .hit 0x56 false .neutral
  | .d23_2_pos => .hit 0x57 false .positive
  | .d23_2_neg => .hit 0x57 false .negative
  | .d24_2_pos => .hit 0x58 false .positive
  | .d24_2_neg => .hit 0x58 false .negative
  | .d25_2 => .hit 0x59 false .neutral
  | .d26_2 => .hit 0x5A false .neutral
  | .d27_2_pos => .hit 0x5B false .positive
  | .d27_2_neg => .hit 0x5B false .negative
  | .d28_2 => .hit 0x5C false .neutral
  | .d29_2_pos => .hit 0x5D false .positive
  | .d29_2_neg => .hit 0x5D false .negative
  | .d30_2_pos => .hit 0x5E false .positive
  | .d30_2_neg => .hit 0x5E false .negative
  | .d31_2_pos => .hit 0x5F false .positive
  | .d31_2_neg => .hit 0x5F false .negative
  | .d0_3_pos => .hit 0x60 false .positive
  | .d0_3_neg => .hit 0x60 false .negative
  | .d1_3_pos => .hit 0x61 false .positive
  | .d1_3_neg => .hit 0x61 false .negative
  | .d2_3_pos => .hit 0x62 false .positive
  | .d2_3_neg => .hit 0x62 false .negative
  | .d3_3_pos => .hit 0x63 false .positive
  | .d3_3_neg => .hit 0x63 false .negative
  | .d4_3_pos => .hit 0x64 false .positive
  | .d4_3_neg => .hit 0x64 false .negative
  | .d5_3_pos => .hit 0x65 false .positive
  | .d5_3_neg => .hit 0x65 false .negative
  | .d6_3_pos => .hit 0x66 false .positive
  | .d6_3_neg => .hit 0x66 false .negative
  | .d7_3_pos => .hit 0x67 false .positive
  | .d7_3_neg => .hit 0x67 false .negative
  | .d8_3_pos => .hit 0x68 false .positive
  | .d8_3_neg => .hit 0x68 false .negative
  | .d9_3_pos => .hit 0x69 false .positive
  | .d9_3_neg => .hit 0x69 false .negative
  | .d10_3_pos => .hit 0x6A false .positive
  | .d10_3_neg => .hit 0x6A false .negative
  | .d11_3_pos => .hit 0x6B false .positive
  | .d11_3_neg => .hit 0x6B false .negative
  | .d12_3_pos => .hit 0x6C false .positive
  | .d12_3_neg => .hit 0x6C false .negative
  | .d13_3_pos => .hit 0x6D false .positive
  | .d13_3_neg => .hit 0x6D false .negative
  | .d14_3_pos => .hit 0x6E false .positive
  | .d14_3_neg => .hit 0x6E false .negative
  | .d15_3_pos => .hit 0x6F false .positive
  | .d15_3_neg => .hit 0x6F false .negative
  | .d16_3_pos => .hit 0x70 false .positive
  | .d16_3_neg => .hit 0x70 false .negative
  | .d17_3_pos => .hit 0x71 false .positive
  | .d17_3_neg => .hit 0x71 false .negative
  | .d18_3_pos => .hit 0x72 false .positive
  | .d18_3_neg => .hit 0x72 false .negative
  | .d19_3_pos => .hit 0x73 false .positive
  | .d19_3_neg => .hit 0x73 false .negative
  | .d20_3_pos => .hit 0x74 false .positive
  | .d20_3_neg => .hit 0x74 false .negative
  | .d21_3_pos => .hit 0x75 false .positive
  | .d21_3_neg => .hit 0x75 false .negative
  | .d22_3_pos => .hit 0x76 false .positive
  | .d22_3_neg => .hit 0x76 false .negative
  | .d23_3_pos => .hit 0x77 false .positive
  | .d23_3_neg => .hit 0x77 false .negative
  | .d24_3_pos => .hit 0x78 false .positive
  | .d24_3_neg => .hit 0x78 false .negative
  | .d25_3_pos => .hit 0x79 false .positive
  | .d25_3_neg => .hit 0x79 false .negative
  | .d26_3_pos => .hit 0x7A false .positive
  | .d26_3_neg => .hit 0x7A false .negative
  | .d27_3_pos => .hit 0x7B false .positive
  | .d27_3_neg => .hit 0x7B false .negative
  | .d28_3_pos => .hit 0x7C false .positive
  | .d28_3_neg => .hit 0x7C false .negative
  | .d29_3_pos => .hit 0x7D false .positive
  | .d29_3_neg => .hit 0x7D false .negative
  | .d30_3_pos => .hit 0x7E false .positive
  | .d30_3_neg => .hit 0x7E false .negative
  | .d31_3_pos => .hit 0x7F false .positive
  | .d31_3_neg => .hit 0x7F false .negative
  | .d0_4_pos => .hit 0x80 false .positive
  | .d0_4_neg => .hit 0x80 false .negative
  | .d1_4_pos => .hit 0x81 false .positive
  | .d1_4_neg => .hit 0x81 false .negative
  | .d2_4_pos => .hit 0x82 false .positive
  | .d2_4_neg => .hit 0x82 false .negative
  | .d3_4_pos => .hit 0x83 false .positive
  | .d3_4_neg => .hit 0x83 false .negative
  | .d4_4_pos => .hit 0x84 false .positive
  | .d4_4_neg => .hit 0x84 false .negative
  | .d5_4_pos => .hit 0x85 false .positive
  | .d5_4_neg => .hit 0x85 false .negative
  | .d6_4_pos => .hit 0x86 false .positive
  | .d6_4_neg => .hit 0x86 false .negative
  | .d7_4_pos => .hit 0x87 false .positive
  | .d7_4_neg => .hit 0x87 false .negative
  | .d8_4_pos => .hit 0x88 false .positive
  | .d8_4_neg => .hit 0x88 false .negative
  | .d9_4_pos => .hit 0x89 false .positive
  | .d9_4_neg => .hit 0x89 false .negative
  | .d10_4_pos => .hit 0x8A false .positive
  | .d10_4_neg => .hit 0x8A false .negative
  | .d11_4_pos => .hit 0x8B false .positive
  | .d11_4_neg => .hit 0x8B false .negative
  | .d12_4_pos => .hit 0x8C false .positive
  | .d12_4_neg => .hit 0x8C false .negative
  | .d13_4_pos => .hit 0x8D false .positive
  | .d13_4_neg => .hit 0x8D false .negative
  | .d14_4_pos => .hit 0x8E false .positive
  | .d14_4_neg => .hit 0x8E false .negative
  | .d15_4_pos => .hit 0x8F false .positive
  | .d15_4_neg => .hit 0x8F false .negative
  | .d16_4_pos => .hit 0x90 false .positive
  | .d16_4_neg => .hit 0x90 false .negative
  | .d17_4_pos => .hit 0x91 false .positive
  | .d17_4_neg => .hit 0x91 false .negative
  | .d18_4_pos => .hit 0x92 false .positive
  | .d18_4_neg => .hit 0x92 false .negative
  | .d19_4_pos => .hit 0x93 false .positive
  | .d19_4_neg => .hit 0x93 false .negative
  | .d20_4_pos => .hit 0x94 false .positive
  | .d20_4_neg => .hit 0x94 false .negative
  | .d21_4_pos => .hit 0x95 false .positive
  | .d21_4_neg => .hit 0x95 false .negative
  | .d22_4_pos => .hit 0x96 false .positive
  | .d22_4_neg => .hit 0x96 false .negative
  | .d23_4_pos => .hit 0x97 false .positive
  | .d23_4_neg => .hit 0x97 false .negative
  | .d24_4_pos => .hit 0x98 false .positive
  | .d24_4_neg => .hit 0x98 false .negative
  | .d25_4_pos => .hit 0x99 false .positive
  | .d25_4_neg => .hit 0x99 false .negative
  | .d26_4_pos => .hit 0x9A false .positive
  | .d26_4_neg => .hit 0x9A false .negative
  | .d27_4_pos => .hit 0x9B false .positive
  | .d27_4_neg => .hit 0x9B false .negative
  | .d28_4_pos => .hit 0x9C false .positive
  | .d28_4_neg => .hit 0x9C false .negative
  | .d29_4_pos => .hit 0x9D false .positive
  | .d29_4_neg => .hit 0x9D false .negative
  | .d30_4_pos => .hit 0x9E false .positive
  | .d30_4_neg => .hit 0x9E false .negative
  | .d31_4_pos => .hit 0x9F false .positive
  | .d31_4_neg => .hit 0x9F false .negative
  | .d0_5_pos => .hit 0xA0 false .positive
  | .d0_5_neg => .hit 0xA0 false .negative
  | .d1_5_pos => .hit 0xA1 false .positive
  | .d1_5_neg => .hit 0xA1 false .negative
  | .d2_5_pos => .hit 0xA2 false .positive
  | .d2_5_neg => .hit 0xA2 false .negative
  | .d3_5 => .hit 0xA3 false .neutral
  | .d4_5_pos => .hit 0xA4 false .positive
  | .d4_5_neg => .hit 0xA4 false .negative
  | .d5_5 => .hit 0xA5 false .neutral
  | .d6_5 => .hit 0xA6 false .neutral
  | .d7_5_pos => .hit 0xA7 false .positive
  | .d7_5_neg => .hit 0xA7 false .negative
  | .d8_5_pos => .hit 0xA8 false .positive
  | .d8_5_neg => .hit 0xA8 false .negative
  | .d9_5 => .hit 0xA9 false .neutral
  | .d10_5 => .hit 0xAA false .neutral
  | .d11_5 => .hit 0xAB false .neutral
  | .d12_5 => .hit 0xAC false .neutral
  | .d13_5 => .hit 0xAD false .neutral
  | .d14_5 => .hit 0xAE false .neutral
  | .d15_5_pos => .hit 0xAF false .positive
  | .d15_5_neg => .hit 0xAF false .negative
  | .d16_5_pos => .hit 0xB0 false .positive
  | .d16_5_neg => .hit 0xB0 false .negative
  | .d17_5 => .hit 0xB1 false .neutral
  | .d18_5 => .hit 0xB2 false .neutral
  | .d19_5 => .hit 0xB3 false .neutral
  | .d20_5 => .hit 0xB4 false .neutral
  | .d21_5 => .hit 0xB5 false .neutral
  | .d22_5 => .hit 0xB6 false .neutral
  | .d23_5_pos => .hit 0xB7 false .positive
  | .d23_5_neg => .hit 0xB7 false .negative
  | .d24_5_pos => .hit 0xB8 false .positive
  | .d24_5_neg => .hit 0xB8 false .negative
  | .d25_5 => .hit 0xB9 false .neutral
  | .d26_5 => .hit 0xBA false .neutral
  | .d27_5_pos => .hit 0xBB false .positive
  | .d27_5_neg => .hit 0xBB false .negative
  | .d28_5 => .hit 0xBC false .neutral
  | .d29_5_pos => .hit 0xBD false .positive
  | .d29_5_neg => .hit 0xBD false .negative
  | .d30_5_pos => .hit 0xBE false .positive
  | .d30_5_neg => .hit 0xBE false .negative
  | .d31_5_pos => .hit 0xBF false .positive
  | .d31_5_neg => .hit 0xBF false .negative
  | .d0_6_pos => .hit 0xC0 false .positive
  | .d0_6_neg => .hit 0xC0 false .negative
  | .d1_6_pos => .hit 0xC1 false .positive
  | .d1_6_neg => .hit 0xC1 false .negative
  | .d2_6_pos => .hit 0xC2 false .positive
  | .d2_6_neg => .hit 0xC2 false .negative
  | .d3_6 => .hit 0xC3 false .neutral
  | .d4_6_pos => .hit 0xC4 false .positive
  | .d4_6_neg => .hit 0xC4 false .negative
  | .d5_6 => .hit 0xC5 false .neutral
  | .d6_6 => .hit 0xC6 false .neutral
  | .d7_6_pos => .hit 0xC7 false .positive
  | .d7_6_neg => .hit 0xC7 false .negative
  | .d8_6_pos => .hit 0xC8 false .positive
  | .d8_6_neg => .hit 0xC8 false .negative
  | .d9_6 => .hit 0xC9 false .neutral
  | .d10_6 => .hit 0xCA false .neutral
  | .d11_6 => .hit 0xCB false .neutral
  | .d12_6 => .hit 0xCC false .neutral
  | .d13_6 => .hit 0xCD false .neutral
  | .d14_6 => .hit 0xCE false .neutral
  | .d15_6_pos => .hit 0xCF false .positive
  | .d15_6_neg => .hit 0xCF false .negative
  | .d16_6_pos => .hit 0xD0 false .positive
  | .d16_6_neg => .hit 0xD0 false .negative
  | .d17_6 => .hit 0xD1 false .neutral
  | .d18_6 => .hit 0xD2 false .neutral
  | .d19_6 => .hit 0xD3 false .neutral
  | .d20_6 => .hit 0xD4 false .neutral
  | .d21_6 => .hit 0xD5 false .neutral
  | .d22_6 => .hit 0xD6 false .neutral
  | .d23_6_pos => .hit 0xD7 false .positive
  | .d23_6_neg => .hit 0xD7 false .negative
  | .d24_6_pos => .hit 0xD8 false .positive
  | .d24_6_neg => .hit 0xD8 false .negative
  | .d25_6 => .hit 0xD9 false .neutral
  | .d26_6 => .hit 0xDA false .neutral
  | .d27_6_pos => .hit 0xDB false .positive
  | .d27_6_neg => .hit 0xDB false .negative
  | .d28_6 => .hit 0xDC false .neutral
  | .d29_6_pos => .hit 0xDD false .positive
  | .d29_6_neg => .hit 0xDD false .negative
  | .d30_6_pos => .hit 0xDE false .positive
  | .d30_6_neg => .hit 0xDE false .negative
  | .d31_6_pos => .hit 0xDF false .positive
  | .d31_6_neg => .hit 0xDF false .negative
  | .d0_7_pos => .hit 0xE0 false .positive
  | .d0_7_neg => .hit 0xE0 false .negative
  | .d1_7_pos => .hit 0xE1 false .positive
  | .d1_7_neg => .hit 0xE1 false .negative
  | .d2_7_pos => .hit 0xE2 false .positive
  | .d2_7_neg => .hit 0xE2 false .negative
  | .d3_7_pos => .hit 0xE3 false .positive
  | .d3_7_neg => .hit 0xE3 false .negative
  | .d4_7_pos => .hit 0xE4 false .positive
  | .d4_7_neg => .hit 0xE4 false .negative
  | .d5_7_pos => .hit 0xE5 false .positive
  | .d5_7_neg => .hit 0xE5 false .negative
  | .d6_7_pos => .hit 0xE6 false .positive
  | .d6_7_neg => .hit 0xE6 false .negative
  | .d7_7_pos => .hit 0xE7 false .positive
  | .d7_7_neg => .hit 0xE7 false .negative
  | .d8_7_pos => .hit 0xE8 false .positive
  | .d8_7_neg => .hit 0xE8 false .negative
  | .d9_7_pos => .hit 0xE9 false .positive
  | .d9_7_neg => .hit 0xE9 false .negative
  | .d10_7_pos => .hit 0xEA false .positive
  | .d10_7_neg => .hit 0xEA false .negative
  | .d11_7_pos => .hit 0xEB false .positive
  | .d11_7_neg => .hit 0xEB false .negative
  | .d12_7_pos => .hit 0xEC false .positive
  | .d12_7_neg => .hit 0xEC false .negative
  | .d13_7_pos => .hit 0xED false .positive
  | .d13_7_neg => .hit 0xED false .negative
  | .d14_7_pos => .hit 0xEE false .positive
  | .d14_7_neg => .hit 0xEE false .negative
  | .d15_7_pos => .hit 0xEF false .positive
  | .d15_7_neg => .hit 0xEF false .negative
  | .d16_7_pos => .hit 0xF0 false .positive
  | .d16_7_neg => .hit 0xF0 false .negative
  | .d17_7_pos => .hit 0xF1 false .positive
  | .d17_7_neg => .hit 0xF1 false .negative
  | .d18_7_pos => .hit 0xF2 false .positive
  | .d18_7_neg => .hit 0xF2 false .negative
  | .d19_7_pos => .hit 0xF3 false .positive
  | .d19_7_neg => .hit 0xF3 false .negative
  | .d20_7_pos => .hit 0xF4 false .positive
  | .d20_7_neg => .hit 0xF4 false .negative
  | .d21_7_pos => .hit 0xF5 false .positive
  | .d21_7_neg => .hit 0xF5 false .negative
  | .d22_7_pos => .hit 0xF6 false .positive
  | .d22_7_neg => .hit 0xF6 false .negative
  | .d23_7_pos => .hit 0xF7 false .positive
  | .d23_7_neg => .hit 0xF7 false .negative
  | .d24_7_pos => .hit 0xF8 false .positive
  | .d24_7_neg => .hit 0xF8 false .negative
  | .d25_7_pos => .hit 0xF9 false .positive
  | .d25_7_neg => .hit 0xF9 false .negative
  | .d26_7_pos => .hit 0xFA false .positive
  | .d26_7_neg => .hit 0xFA false .negative
  | .d27_7_pos => .hit 0xFB false .positive
  | .d27_7_neg => .hit 0xFB false .negative
  | .d28_7_pos => .hit 0xFC false .positive
  | .d28_7_neg => .hit 0xFC false .negative
  | .d29_7_pos => .hit 0xFD false .positive
  | .d29_7_neg => .hit 0xFD false .negative
  | .d30_7_pos => .hit 0xFE false .positive
  | .d30_7_neg => .hit 0xFE false .negative
  | .d31_7_pos => .hit 0xFF false .positive
  | .d31_7_neg => .hit 0xFF false .negative
  | .k28_0_pos => .hit 0x1C true .positive
  | .k28_0_neg => .hit 0x1C true .negative
  | .k28_1_pos => .hit 0x3C true .positive
  | .k28_1_neg => .hit 0x3C true .negative
  | .k28_2_pos => .hit 0x5C true .positive
  | .k28_2_neg => .hit 0x5C true .negative
  | .k28_3_pos => .hit 0x7C true .positive
  | .k28_3_neg => .hit 0x7C true .negative
  | .k28_4_pos => .hit 0x9C true .positive
  | .k28_4_neg => .hit 0x9C true .negative
  | .k28_5_pos => .hit 0xBC true .positive
  | .k28_5_neg => .hit 0xBC true .negative
  | .k28_6_pos => .hit 0xDC true .positive
  | .k28_6_neg => .hit 0xDC true .negative
  | .k23_7_pos => .hit 0xF7 true .positive
  | .k23_7_neg => .hit 0xF7 true .negative
  | .k27_7_pos => .hit 0xFB true .positive
  | .k27_7_neg => .hit 0xFB true .negative
  | .k28_7_pos => .hit 0xFC true .positive
  | .k28_7_neg => .hit 0xFC true .negative
  | .k29_7_pos => .hit 0xFD true .positive
  | .k29_7_neg => .hit 0xFD true .negative
  | .k30_7_pos => .hit 0xFE true .positive
  | .k30_7_neg => .hit 0xFE true .negative

/-- The table holds the row's entry at the row's codeword. -/
def RomRow.Statement (i : Instr) : Prop := i.WellFormed → Machine.rom (encode i) = RomRow.entry i

theorem RomRow.invalid (w : Codeword) : RomRow.Statement (.invalid w) := by
  intro h
  have hm : Machine.rom w = .miss := by simpa [Instr.WellFormed, Instr.wellFormed] using h
  exact hm
theorem RomRow.d0_0_pos : RomRow.Statement .d0_0_pos := fun _ => rfl
theorem RomRow.d0_0_neg : RomRow.Statement .d0_0_neg := fun _ => rfl
theorem RomRow.d1_0_pos : RomRow.Statement .d1_0_pos := fun _ => rfl
theorem RomRow.d1_0_neg : RomRow.Statement .d1_0_neg := fun _ => rfl
theorem RomRow.d2_0_pos : RomRow.Statement .d2_0_pos := fun _ => rfl
theorem RomRow.d2_0_neg : RomRow.Statement .d2_0_neg := fun _ => rfl
theorem RomRow.d3_0_pos : RomRow.Statement .d3_0_pos := fun _ => rfl
theorem RomRow.d3_0_neg : RomRow.Statement .d3_0_neg := fun _ => rfl
theorem RomRow.d4_0_pos : RomRow.Statement .d4_0_pos := fun _ => rfl
theorem RomRow.d4_0_neg : RomRow.Statement .d4_0_neg := fun _ => rfl
theorem RomRow.d5_0_pos : RomRow.Statement .d5_0_pos := fun _ => rfl
theorem RomRow.d5_0_neg : RomRow.Statement .d5_0_neg := fun _ => rfl
theorem RomRow.d6_0_pos : RomRow.Statement .d6_0_pos := fun _ => rfl
theorem RomRow.d6_0_neg : RomRow.Statement .d6_0_neg := fun _ => rfl
theorem RomRow.d7_0_pos : RomRow.Statement .d7_0_pos := fun _ => rfl
theorem RomRow.d7_0_neg : RomRow.Statement .d7_0_neg := fun _ => rfl
theorem RomRow.d8_0_pos : RomRow.Statement .d8_0_pos := fun _ => rfl
theorem RomRow.d8_0_neg : RomRow.Statement .d8_0_neg := fun _ => rfl
theorem RomRow.d9_0_pos : RomRow.Statement .d9_0_pos := fun _ => rfl
theorem RomRow.d9_0_neg : RomRow.Statement .d9_0_neg := fun _ => rfl
theorem RomRow.d10_0_pos : RomRow.Statement .d10_0_pos := fun _ => rfl
theorem RomRow.d10_0_neg : RomRow.Statement .d10_0_neg := fun _ => rfl
theorem RomRow.d11_0_pos : RomRow.Statement .d11_0_pos := fun _ => rfl
theorem RomRow.d11_0_neg : RomRow.Statement .d11_0_neg := fun _ => rfl
theorem RomRow.d12_0_pos : RomRow.Statement .d12_0_pos := fun _ => rfl
theorem RomRow.d12_0_neg : RomRow.Statement .d12_0_neg := fun _ => rfl
theorem RomRow.d13_0_pos : RomRow.Statement .d13_0_pos := fun _ => rfl
theorem RomRow.d13_0_neg : RomRow.Statement .d13_0_neg := fun _ => rfl
theorem RomRow.d14_0_pos : RomRow.Statement .d14_0_pos := fun _ => rfl
theorem RomRow.d14_0_neg : RomRow.Statement .d14_0_neg := fun _ => rfl
theorem RomRow.d15_0_pos : RomRow.Statement .d15_0_pos := fun _ => rfl
theorem RomRow.d15_0_neg : RomRow.Statement .d15_0_neg := fun _ => rfl
theorem RomRow.d16_0_pos : RomRow.Statement .d16_0_pos := fun _ => rfl
theorem RomRow.d16_0_neg : RomRow.Statement .d16_0_neg := fun _ => rfl
theorem RomRow.d17_0_pos : RomRow.Statement .d17_0_pos := fun _ => rfl
theorem RomRow.d17_0_neg : RomRow.Statement .d17_0_neg := fun _ => rfl
theorem RomRow.d18_0_pos : RomRow.Statement .d18_0_pos := fun _ => rfl
theorem RomRow.d18_0_neg : RomRow.Statement .d18_0_neg := fun _ => rfl
theorem RomRow.d19_0_pos : RomRow.Statement .d19_0_pos := fun _ => rfl
theorem RomRow.d19_0_neg : RomRow.Statement .d19_0_neg := fun _ => rfl
theorem RomRow.d20_0_pos : RomRow.Statement .d20_0_pos := fun _ => rfl
theorem RomRow.d20_0_neg : RomRow.Statement .d20_0_neg := fun _ => rfl
theorem RomRow.d21_0_pos : RomRow.Statement .d21_0_pos := fun _ => rfl
theorem RomRow.d21_0_neg : RomRow.Statement .d21_0_neg := fun _ => rfl
theorem RomRow.d22_0_pos : RomRow.Statement .d22_0_pos := fun _ => rfl
theorem RomRow.d22_0_neg : RomRow.Statement .d22_0_neg := fun _ => rfl
theorem RomRow.d23_0_pos : RomRow.Statement .d23_0_pos := fun _ => rfl
theorem RomRow.d23_0_neg : RomRow.Statement .d23_0_neg := fun _ => rfl
theorem RomRow.d24_0_pos : RomRow.Statement .d24_0_pos := fun _ => rfl
theorem RomRow.d24_0_neg : RomRow.Statement .d24_0_neg := fun _ => rfl
theorem RomRow.d25_0_pos : RomRow.Statement .d25_0_pos := fun _ => rfl
theorem RomRow.d25_0_neg : RomRow.Statement .d25_0_neg := fun _ => rfl
theorem RomRow.d26_0_pos : RomRow.Statement .d26_0_pos := fun _ => rfl
theorem RomRow.d26_0_neg : RomRow.Statement .d26_0_neg := fun _ => rfl
theorem RomRow.d27_0_pos : RomRow.Statement .d27_0_pos := fun _ => rfl
theorem RomRow.d27_0_neg : RomRow.Statement .d27_0_neg := fun _ => rfl
theorem RomRow.d28_0_pos : RomRow.Statement .d28_0_pos := fun _ => rfl
theorem RomRow.d28_0_neg : RomRow.Statement .d28_0_neg := fun _ => rfl
theorem RomRow.d29_0_pos : RomRow.Statement .d29_0_pos := fun _ => rfl
theorem RomRow.d29_0_neg : RomRow.Statement .d29_0_neg := fun _ => rfl
theorem RomRow.d30_0_pos : RomRow.Statement .d30_0_pos := fun _ => rfl
theorem RomRow.d30_0_neg : RomRow.Statement .d30_0_neg := fun _ => rfl
theorem RomRow.d31_0_pos : RomRow.Statement .d31_0_pos := fun _ => rfl
theorem RomRow.d31_0_neg : RomRow.Statement .d31_0_neg := fun _ => rfl
theorem RomRow.d0_1_pos : RomRow.Statement .d0_1_pos := fun _ => rfl
theorem RomRow.d0_1_neg : RomRow.Statement .d0_1_neg := fun _ => rfl
theorem RomRow.d1_1_pos : RomRow.Statement .d1_1_pos := fun _ => rfl
theorem RomRow.d1_1_neg : RomRow.Statement .d1_1_neg := fun _ => rfl
theorem RomRow.d2_1_pos : RomRow.Statement .d2_1_pos := fun _ => rfl
theorem RomRow.d2_1_neg : RomRow.Statement .d2_1_neg := fun _ => rfl
theorem RomRow.d3_1 : RomRow.Statement .d3_1 := fun _ => rfl
theorem RomRow.d4_1_pos : RomRow.Statement .d4_1_pos := fun _ => rfl
theorem RomRow.d4_1_neg : RomRow.Statement .d4_1_neg := fun _ => rfl
theorem RomRow.d5_1 : RomRow.Statement .d5_1 := fun _ => rfl
theorem RomRow.d6_1 : RomRow.Statement .d6_1 := fun _ => rfl
theorem RomRow.d7_1_pos : RomRow.Statement .d7_1_pos := fun _ => rfl
theorem RomRow.d7_1_neg : RomRow.Statement .d7_1_neg := fun _ => rfl
theorem RomRow.d8_1_pos : RomRow.Statement .d8_1_pos := fun _ => rfl
theorem RomRow.d8_1_neg : RomRow.Statement .d8_1_neg := fun _ => rfl
theorem RomRow.d9_1 : RomRow.Statement .d9_1 := fun _ => rfl
theorem RomRow.d10_1 : RomRow.Statement .d10_1 := fun _ => rfl
theorem RomRow.d11_1 : RomRow.Statement .d11_1 := fun _ => rfl
theorem RomRow.d12_1 : RomRow.Statement .d12_1 := fun _ => rfl
theorem RomRow.d13_1 : RomRow.Statement .d13_1 := fun _ => rfl
theorem RomRow.d14_1 : RomRow.Statement .d14_1 := fun _ => rfl
theorem RomRow.d15_1_pos : RomRow.Statement .d15_1_pos := fun _ => rfl
theorem RomRow.d15_1_neg : RomRow.Statement .d15_1_neg := fun _ => rfl
theorem RomRow.d16_1_pos : RomRow.Statement .d16_1_pos := fun _ => rfl
theorem RomRow.d16_1_neg : RomRow.Statement .d16_1_neg := fun _ => rfl
theorem RomRow.d17_1 : RomRow.Statement .d17_1 := fun _ => rfl
theorem RomRow.d18_1 : RomRow.Statement .d18_1 := fun _ => rfl
theorem RomRow.d19_1 : RomRow.Statement .d19_1 := fun _ => rfl
theorem RomRow.d20_1 : RomRow.Statement .d20_1 := fun _ => rfl
theorem RomRow.d21_1 : RomRow.Statement .d21_1 := fun _ => rfl
theorem RomRow.d22_1 : RomRow.Statement .d22_1 := fun _ => rfl
theorem RomRow.d23_1_pos : RomRow.Statement .d23_1_pos := fun _ => rfl
theorem RomRow.d23_1_neg : RomRow.Statement .d23_1_neg := fun _ => rfl
theorem RomRow.d24_1_pos : RomRow.Statement .d24_1_pos := fun _ => rfl
theorem RomRow.d24_1_neg : RomRow.Statement .d24_1_neg := fun _ => rfl
theorem RomRow.d25_1 : RomRow.Statement .d25_1 := fun _ => rfl
theorem RomRow.d26_1 : RomRow.Statement .d26_1 := fun _ => rfl
theorem RomRow.d27_1_pos : RomRow.Statement .d27_1_pos := fun _ => rfl
theorem RomRow.d27_1_neg : RomRow.Statement .d27_1_neg := fun _ => rfl
theorem RomRow.d28_1 : RomRow.Statement .d28_1 := fun _ => rfl
theorem RomRow.d29_1_pos : RomRow.Statement .d29_1_pos := fun _ => rfl
theorem RomRow.d29_1_neg : RomRow.Statement .d29_1_neg := fun _ => rfl
theorem RomRow.d30_1_pos : RomRow.Statement .d30_1_pos := fun _ => rfl
theorem RomRow.d30_1_neg : RomRow.Statement .d30_1_neg := fun _ => rfl
theorem RomRow.d31_1_pos : RomRow.Statement .d31_1_pos := fun _ => rfl
theorem RomRow.d31_1_neg : RomRow.Statement .d31_1_neg := fun _ => rfl
theorem RomRow.d0_2_pos : RomRow.Statement .d0_2_pos := fun _ => rfl
theorem RomRow.d0_2_neg : RomRow.Statement .d0_2_neg := fun _ => rfl
theorem RomRow.d1_2_pos : RomRow.Statement .d1_2_pos := fun _ => rfl
theorem RomRow.d1_2_neg : RomRow.Statement .d1_2_neg := fun _ => rfl
theorem RomRow.d2_2_pos : RomRow.Statement .d2_2_pos := fun _ => rfl
theorem RomRow.d2_2_neg : RomRow.Statement .d2_2_neg := fun _ => rfl
theorem RomRow.d3_2 : RomRow.Statement .d3_2 := fun _ => rfl
theorem RomRow.d4_2_pos : RomRow.Statement .d4_2_pos := fun _ => rfl
theorem RomRow.d4_2_neg : RomRow.Statement .d4_2_neg := fun _ => rfl
theorem RomRow.d5_2 : RomRow.Statement .d5_2 := fun _ => rfl
theorem RomRow.d6_2 : RomRow.Statement .d6_2 := fun _ => rfl
theorem RomRow.d7_2_pos : RomRow.Statement .d7_2_pos := fun _ => rfl
theorem RomRow.d7_2_neg : RomRow.Statement .d7_2_neg := fun _ => rfl
theorem RomRow.d8_2_pos : RomRow.Statement .d8_2_pos := fun _ => rfl
theorem RomRow.d8_2_neg : RomRow.Statement .d8_2_neg := fun _ => rfl
theorem RomRow.d9_2 : RomRow.Statement .d9_2 := fun _ => rfl
theorem RomRow.d10_2 : RomRow.Statement .d10_2 := fun _ => rfl
theorem RomRow.d11_2 : RomRow.Statement .d11_2 := fun _ => rfl
theorem RomRow.d12_2 : RomRow.Statement .d12_2 := fun _ => rfl
theorem RomRow.d13_2 : RomRow.Statement .d13_2 := fun _ => rfl
theorem RomRow.d14_2 : RomRow.Statement .d14_2 := fun _ => rfl
theorem RomRow.d15_2_pos : RomRow.Statement .d15_2_pos := fun _ => rfl
theorem RomRow.d15_2_neg : RomRow.Statement .d15_2_neg := fun _ => rfl
theorem RomRow.d16_2_pos : RomRow.Statement .d16_2_pos := fun _ => rfl
theorem RomRow.d16_2_neg : RomRow.Statement .d16_2_neg := fun _ => rfl
theorem RomRow.d17_2 : RomRow.Statement .d17_2 := fun _ => rfl
theorem RomRow.d18_2 : RomRow.Statement .d18_2 := fun _ => rfl
theorem RomRow.d19_2 : RomRow.Statement .d19_2 := fun _ => rfl
theorem RomRow.d20_2 : RomRow.Statement .d20_2 := fun _ => rfl
theorem RomRow.d21_2 : RomRow.Statement .d21_2 := fun _ => rfl
theorem RomRow.d22_2 : RomRow.Statement .d22_2 := fun _ => rfl
theorem RomRow.d23_2_pos : RomRow.Statement .d23_2_pos := fun _ => rfl
theorem RomRow.d23_2_neg : RomRow.Statement .d23_2_neg := fun _ => rfl
theorem RomRow.d24_2_pos : RomRow.Statement .d24_2_pos := fun _ => rfl
theorem RomRow.d24_2_neg : RomRow.Statement .d24_2_neg := fun _ => rfl
theorem RomRow.d25_2 : RomRow.Statement .d25_2 := fun _ => rfl
theorem RomRow.d26_2 : RomRow.Statement .d26_2 := fun _ => rfl
theorem RomRow.d27_2_pos : RomRow.Statement .d27_2_pos := fun _ => rfl
theorem RomRow.d27_2_neg : RomRow.Statement .d27_2_neg := fun _ => rfl
theorem RomRow.d28_2 : RomRow.Statement .d28_2 := fun _ => rfl
theorem RomRow.d29_2_pos : RomRow.Statement .d29_2_pos := fun _ => rfl
theorem RomRow.d29_2_neg : RomRow.Statement .d29_2_neg := fun _ => rfl
theorem RomRow.d30_2_pos : RomRow.Statement .d30_2_pos := fun _ => rfl
theorem RomRow.d30_2_neg : RomRow.Statement .d30_2_neg := fun _ => rfl
theorem RomRow.d31_2_pos : RomRow.Statement .d31_2_pos := fun _ => rfl
theorem RomRow.d31_2_neg : RomRow.Statement .d31_2_neg := fun _ => rfl
theorem RomRow.d0_3_pos : RomRow.Statement .d0_3_pos := fun _ => rfl
theorem RomRow.d0_3_neg : RomRow.Statement .d0_3_neg := fun _ => rfl
theorem RomRow.d1_3_pos : RomRow.Statement .d1_3_pos := fun _ => rfl
theorem RomRow.d1_3_neg : RomRow.Statement .d1_3_neg := fun _ => rfl
theorem RomRow.d2_3_pos : RomRow.Statement .d2_3_pos := fun _ => rfl
theorem RomRow.d2_3_neg : RomRow.Statement .d2_3_neg := fun _ => rfl
theorem RomRow.d3_3_pos : RomRow.Statement .d3_3_pos := fun _ => rfl
theorem RomRow.d3_3_neg : RomRow.Statement .d3_3_neg := fun _ => rfl
theorem RomRow.d4_3_pos : RomRow.Statement .d4_3_pos := fun _ => rfl
theorem RomRow.d4_3_neg : RomRow.Statement .d4_3_neg := fun _ => rfl
theorem RomRow.d5_3_pos : RomRow.Statement .d5_3_pos := fun _ => rfl
theorem RomRow.d5_3_neg : RomRow.Statement .d5_3_neg := fun _ => rfl
theorem RomRow.d6_3_pos : RomRow.Statement .d6_3_pos := fun _ => rfl
theorem RomRow.d6_3_neg : RomRow.Statement .d6_3_neg := fun _ => rfl
theorem RomRow.d7_3_pos : RomRow.Statement .d7_3_pos := fun _ => rfl
theorem RomRow.d7_3_neg : RomRow.Statement .d7_3_neg := fun _ => rfl
theorem RomRow.d8_3_pos : RomRow.Statement .d8_3_pos := fun _ => rfl
theorem RomRow.d8_3_neg : RomRow.Statement .d8_3_neg := fun _ => rfl
theorem RomRow.d9_3_pos : RomRow.Statement .d9_3_pos := fun _ => rfl
theorem RomRow.d9_3_neg : RomRow.Statement .d9_3_neg := fun _ => rfl
theorem RomRow.d10_3_pos : RomRow.Statement .d10_3_pos := fun _ => rfl
theorem RomRow.d10_3_neg : RomRow.Statement .d10_3_neg := fun _ => rfl
theorem RomRow.d11_3_pos : RomRow.Statement .d11_3_pos := fun _ => rfl
theorem RomRow.d11_3_neg : RomRow.Statement .d11_3_neg := fun _ => rfl
theorem RomRow.d12_3_pos : RomRow.Statement .d12_3_pos := fun _ => rfl
theorem RomRow.d12_3_neg : RomRow.Statement .d12_3_neg := fun _ => rfl
theorem RomRow.d13_3_pos : RomRow.Statement .d13_3_pos := fun _ => rfl
theorem RomRow.d13_3_neg : RomRow.Statement .d13_3_neg := fun _ => rfl
theorem RomRow.d14_3_pos : RomRow.Statement .d14_3_pos := fun _ => rfl
theorem RomRow.d14_3_neg : RomRow.Statement .d14_3_neg := fun _ => rfl
theorem RomRow.d15_3_pos : RomRow.Statement .d15_3_pos := fun _ => rfl
theorem RomRow.d15_3_neg : RomRow.Statement .d15_3_neg := fun _ => rfl
theorem RomRow.d16_3_pos : RomRow.Statement .d16_3_pos := fun _ => rfl
theorem RomRow.d16_3_neg : RomRow.Statement .d16_3_neg := fun _ => rfl
theorem RomRow.d17_3_pos : RomRow.Statement .d17_3_pos := fun _ => rfl
theorem RomRow.d17_3_neg : RomRow.Statement .d17_3_neg := fun _ => rfl
theorem RomRow.d18_3_pos : RomRow.Statement .d18_3_pos := fun _ => rfl
theorem RomRow.d18_3_neg : RomRow.Statement .d18_3_neg := fun _ => rfl
theorem RomRow.d19_3_pos : RomRow.Statement .d19_3_pos := fun _ => rfl
theorem RomRow.d19_3_neg : RomRow.Statement .d19_3_neg := fun _ => rfl
theorem RomRow.d20_3_pos : RomRow.Statement .d20_3_pos := fun _ => rfl
theorem RomRow.d20_3_neg : RomRow.Statement .d20_3_neg := fun _ => rfl
theorem RomRow.d21_3_pos : RomRow.Statement .d21_3_pos := fun _ => rfl
theorem RomRow.d21_3_neg : RomRow.Statement .d21_3_neg := fun _ => rfl
theorem RomRow.d22_3_pos : RomRow.Statement .d22_3_pos := fun _ => rfl
theorem RomRow.d22_3_neg : RomRow.Statement .d22_3_neg := fun _ => rfl
theorem RomRow.d23_3_pos : RomRow.Statement .d23_3_pos := fun _ => rfl
theorem RomRow.d23_3_neg : RomRow.Statement .d23_3_neg := fun _ => rfl
theorem RomRow.d24_3_pos : RomRow.Statement .d24_3_pos := fun _ => rfl
theorem RomRow.d24_3_neg : RomRow.Statement .d24_3_neg := fun _ => rfl
theorem RomRow.d25_3_pos : RomRow.Statement .d25_3_pos := fun _ => rfl
theorem RomRow.d25_3_neg : RomRow.Statement .d25_3_neg := fun _ => rfl
theorem RomRow.d26_3_pos : RomRow.Statement .d26_3_pos := fun _ => rfl
theorem RomRow.d26_3_neg : RomRow.Statement .d26_3_neg := fun _ => rfl
theorem RomRow.d27_3_pos : RomRow.Statement .d27_3_pos := fun _ => rfl
theorem RomRow.d27_3_neg : RomRow.Statement .d27_3_neg := fun _ => rfl
theorem RomRow.d28_3_pos : RomRow.Statement .d28_3_pos := fun _ => rfl
theorem RomRow.d28_3_neg : RomRow.Statement .d28_3_neg := fun _ => rfl
theorem RomRow.d29_3_pos : RomRow.Statement .d29_3_pos := fun _ => rfl
theorem RomRow.d29_3_neg : RomRow.Statement .d29_3_neg := fun _ => rfl
theorem RomRow.d30_3_pos : RomRow.Statement .d30_3_pos := fun _ => rfl
theorem RomRow.d30_3_neg : RomRow.Statement .d30_3_neg := fun _ => rfl
theorem RomRow.d31_3_pos : RomRow.Statement .d31_3_pos := fun _ => rfl
theorem RomRow.d31_3_neg : RomRow.Statement .d31_3_neg := fun _ => rfl
theorem RomRow.d0_4_pos : RomRow.Statement .d0_4_pos := fun _ => rfl
theorem RomRow.d0_4_neg : RomRow.Statement .d0_4_neg := fun _ => rfl
theorem RomRow.d1_4_pos : RomRow.Statement .d1_4_pos := fun _ => rfl
theorem RomRow.d1_4_neg : RomRow.Statement .d1_4_neg := fun _ => rfl
theorem RomRow.d2_4_pos : RomRow.Statement .d2_4_pos := fun _ => rfl
theorem RomRow.d2_4_neg : RomRow.Statement .d2_4_neg := fun _ => rfl
theorem RomRow.d3_4_pos : RomRow.Statement .d3_4_pos := fun _ => rfl
theorem RomRow.d3_4_neg : RomRow.Statement .d3_4_neg := fun _ => rfl
theorem RomRow.d4_4_pos : RomRow.Statement .d4_4_pos := fun _ => rfl
theorem RomRow.d4_4_neg : RomRow.Statement .d4_4_neg := fun _ => rfl
theorem RomRow.d5_4_pos : RomRow.Statement .d5_4_pos := fun _ => rfl
theorem RomRow.d5_4_neg : RomRow.Statement .d5_4_neg := fun _ => rfl
theorem RomRow.d6_4_pos : RomRow.Statement .d6_4_pos := fun _ => rfl
theorem RomRow.d6_4_neg : RomRow.Statement .d6_4_neg := fun _ => rfl
theorem RomRow.d7_4_pos : RomRow.Statement .d7_4_pos := fun _ => rfl
theorem RomRow.d7_4_neg : RomRow.Statement .d7_4_neg := fun _ => rfl
theorem RomRow.d8_4_pos : RomRow.Statement .d8_4_pos := fun _ => rfl
theorem RomRow.d8_4_neg : RomRow.Statement .d8_4_neg := fun _ => rfl
theorem RomRow.d9_4_pos : RomRow.Statement .d9_4_pos := fun _ => rfl
theorem RomRow.d9_4_neg : RomRow.Statement .d9_4_neg := fun _ => rfl
theorem RomRow.d10_4_pos : RomRow.Statement .d10_4_pos := fun _ => rfl
theorem RomRow.d10_4_neg : RomRow.Statement .d10_4_neg := fun _ => rfl
theorem RomRow.d11_4_pos : RomRow.Statement .d11_4_pos := fun _ => rfl
theorem RomRow.d11_4_neg : RomRow.Statement .d11_4_neg := fun _ => rfl
theorem RomRow.d12_4_pos : RomRow.Statement .d12_4_pos := fun _ => rfl
theorem RomRow.d12_4_neg : RomRow.Statement .d12_4_neg := fun _ => rfl
theorem RomRow.d13_4_pos : RomRow.Statement .d13_4_pos := fun _ => rfl
theorem RomRow.d13_4_neg : RomRow.Statement .d13_4_neg := fun _ => rfl
theorem RomRow.d14_4_pos : RomRow.Statement .d14_4_pos := fun _ => rfl
theorem RomRow.d14_4_neg : RomRow.Statement .d14_4_neg := fun _ => rfl
theorem RomRow.d15_4_pos : RomRow.Statement .d15_4_pos := fun _ => rfl
theorem RomRow.d15_4_neg : RomRow.Statement .d15_4_neg := fun _ => rfl
theorem RomRow.d16_4_pos : RomRow.Statement .d16_4_pos := fun _ => rfl
theorem RomRow.d16_4_neg : RomRow.Statement .d16_4_neg := fun _ => rfl
theorem RomRow.d17_4_pos : RomRow.Statement .d17_4_pos := fun _ => rfl
theorem RomRow.d17_4_neg : RomRow.Statement .d17_4_neg := fun _ => rfl
theorem RomRow.d18_4_pos : RomRow.Statement .d18_4_pos := fun _ => rfl
theorem RomRow.d18_4_neg : RomRow.Statement .d18_4_neg := fun _ => rfl
theorem RomRow.d19_4_pos : RomRow.Statement .d19_4_pos := fun _ => rfl
theorem RomRow.d19_4_neg : RomRow.Statement .d19_4_neg := fun _ => rfl
theorem RomRow.d20_4_pos : RomRow.Statement .d20_4_pos := fun _ => rfl
theorem RomRow.d20_4_neg : RomRow.Statement .d20_4_neg := fun _ => rfl
theorem RomRow.d21_4_pos : RomRow.Statement .d21_4_pos := fun _ => rfl
theorem RomRow.d21_4_neg : RomRow.Statement .d21_4_neg := fun _ => rfl
theorem RomRow.d22_4_pos : RomRow.Statement .d22_4_pos := fun _ => rfl
theorem RomRow.d22_4_neg : RomRow.Statement .d22_4_neg := fun _ => rfl
theorem RomRow.d23_4_pos : RomRow.Statement .d23_4_pos := fun _ => rfl
theorem RomRow.d23_4_neg : RomRow.Statement .d23_4_neg := fun _ => rfl
theorem RomRow.d24_4_pos : RomRow.Statement .d24_4_pos := fun _ => rfl
theorem RomRow.d24_4_neg : RomRow.Statement .d24_4_neg := fun _ => rfl
theorem RomRow.d25_4_pos : RomRow.Statement .d25_4_pos := fun _ => rfl
theorem RomRow.d25_4_neg : RomRow.Statement .d25_4_neg := fun _ => rfl
theorem RomRow.d26_4_pos : RomRow.Statement .d26_4_pos := fun _ => rfl
theorem RomRow.d26_4_neg : RomRow.Statement .d26_4_neg := fun _ => rfl
theorem RomRow.d27_4_pos : RomRow.Statement .d27_4_pos := fun _ => rfl
theorem RomRow.d27_4_neg : RomRow.Statement .d27_4_neg := fun _ => rfl
theorem RomRow.d28_4_pos : RomRow.Statement .d28_4_pos := fun _ => rfl
theorem RomRow.d28_4_neg : RomRow.Statement .d28_4_neg := fun _ => rfl
theorem RomRow.d29_4_pos : RomRow.Statement .d29_4_pos := fun _ => rfl
theorem RomRow.d29_4_neg : RomRow.Statement .d29_4_neg := fun _ => rfl
theorem RomRow.d30_4_pos : RomRow.Statement .d30_4_pos := fun _ => rfl
theorem RomRow.d30_4_neg : RomRow.Statement .d30_4_neg := fun _ => rfl
theorem RomRow.d31_4_pos : RomRow.Statement .d31_4_pos := fun _ => rfl
theorem RomRow.d31_4_neg : RomRow.Statement .d31_4_neg := fun _ => rfl
theorem RomRow.d0_5_pos : RomRow.Statement .d0_5_pos := fun _ => rfl
theorem RomRow.d0_5_neg : RomRow.Statement .d0_5_neg := fun _ => rfl
theorem RomRow.d1_5_pos : RomRow.Statement .d1_5_pos := fun _ => rfl
theorem RomRow.d1_5_neg : RomRow.Statement .d1_5_neg := fun _ => rfl
theorem RomRow.d2_5_pos : RomRow.Statement .d2_5_pos := fun _ => rfl
theorem RomRow.d2_5_neg : RomRow.Statement .d2_5_neg := fun _ => rfl
theorem RomRow.d3_5 : RomRow.Statement .d3_5 := fun _ => rfl
theorem RomRow.d4_5_pos : RomRow.Statement .d4_5_pos := fun _ => rfl
theorem RomRow.d4_5_neg : RomRow.Statement .d4_5_neg := fun _ => rfl
theorem RomRow.d5_5 : RomRow.Statement .d5_5 := fun _ => rfl
theorem RomRow.d6_5 : RomRow.Statement .d6_5 := fun _ => rfl
theorem RomRow.d7_5_pos : RomRow.Statement .d7_5_pos := fun _ => rfl
theorem RomRow.d7_5_neg : RomRow.Statement .d7_5_neg := fun _ => rfl
theorem RomRow.d8_5_pos : RomRow.Statement .d8_5_pos := fun _ => rfl
theorem RomRow.d8_5_neg : RomRow.Statement .d8_5_neg := fun _ => rfl
theorem RomRow.d9_5 : RomRow.Statement .d9_5 := fun _ => rfl
theorem RomRow.d10_5 : RomRow.Statement .d10_5 := fun _ => rfl
theorem RomRow.d11_5 : RomRow.Statement .d11_5 := fun _ => rfl
theorem RomRow.d12_5 : RomRow.Statement .d12_5 := fun _ => rfl
theorem RomRow.d13_5 : RomRow.Statement .d13_5 := fun _ => rfl
theorem RomRow.d14_5 : RomRow.Statement .d14_5 := fun _ => rfl
theorem RomRow.d15_5_pos : RomRow.Statement .d15_5_pos := fun _ => rfl
theorem RomRow.d15_5_neg : RomRow.Statement .d15_5_neg := fun _ => rfl
theorem RomRow.d16_5_pos : RomRow.Statement .d16_5_pos := fun _ => rfl
theorem RomRow.d16_5_neg : RomRow.Statement .d16_5_neg := fun _ => rfl
theorem RomRow.d17_5 : RomRow.Statement .d17_5 := fun _ => rfl
theorem RomRow.d18_5 : RomRow.Statement .d18_5 := fun _ => rfl
theorem RomRow.d19_5 : RomRow.Statement .d19_5 := fun _ => rfl
theorem RomRow.d20_5 : RomRow.Statement .d20_5 := fun _ => rfl
theorem RomRow.d21_5 : RomRow.Statement .d21_5 := fun _ => rfl
theorem RomRow.d22_5 : RomRow.Statement .d22_5 := fun _ => rfl
theorem RomRow.d23_5_pos : RomRow.Statement .d23_5_pos := fun _ => rfl
theorem RomRow.d23_5_neg : RomRow.Statement .d23_5_neg := fun _ => rfl
theorem RomRow.d24_5_pos : RomRow.Statement .d24_5_pos := fun _ => rfl
theorem RomRow.d24_5_neg : RomRow.Statement .d24_5_neg := fun _ => rfl
theorem RomRow.d25_5 : RomRow.Statement .d25_5 := fun _ => rfl
theorem RomRow.d26_5 : RomRow.Statement .d26_5 := fun _ => rfl
theorem RomRow.d27_5_pos : RomRow.Statement .d27_5_pos := fun _ => rfl
theorem RomRow.d27_5_neg : RomRow.Statement .d27_5_neg := fun _ => rfl
theorem RomRow.d28_5 : RomRow.Statement .d28_5 := fun _ => rfl
theorem RomRow.d29_5_pos : RomRow.Statement .d29_5_pos := fun _ => rfl
theorem RomRow.d29_5_neg : RomRow.Statement .d29_5_neg := fun _ => rfl
theorem RomRow.d30_5_pos : RomRow.Statement .d30_5_pos := fun _ => rfl
theorem RomRow.d30_5_neg : RomRow.Statement .d30_5_neg := fun _ => rfl
theorem RomRow.d31_5_pos : RomRow.Statement .d31_5_pos := fun _ => rfl
theorem RomRow.d31_5_neg : RomRow.Statement .d31_5_neg := fun _ => rfl
theorem RomRow.d0_6_pos : RomRow.Statement .d0_6_pos := fun _ => rfl
theorem RomRow.d0_6_neg : RomRow.Statement .d0_6_neg := fun _ => rfl
theorem RomRow.d1_6_pos : RomRow.Statement .d1_6_pos := fun _ => rfl
theorem RomRow.d1_6_neg : RomRow.Statement .d1_6_neg := fun _ => rfl
theorem RomRow.d2_6_pos : RomRow.Statement .d2_6_pos := fun _ => rfl
theorem RomRow.d2_6_neg : RomRow.Statement .d2_6_neg := fun _ => rfl
theorem RomRow.d3_6 : RomRow.Statement .d3_6 := fun _ => rfl
theorem RomRow.d4_6_pos : RomRow.Statement .d4_6_pos := fun _ => rfl
theorem RomRow.d4_6_neg : RomRow.Statement .d4_6_neg := fun _ => rfl
theorem RomRow.d5_6 : RomRow.Statement .d5_6 := fun _ => rfl
theorem RomRow.d6_6 : RomRow.Statement .d6_6 := fun _ => rfl
theorem RomRow.d7_6_pos : RomRow.Statement .d7_6_pos := fun _ => rfl
theorem RomRow.d7_6_neg : RomRow.Statement .d7_6_neg := fun _ => rfl
theorem RomRow.d8_6_pos : RomRow.Statement .d8_6_pos := fun _ => rfl
theorem RomRow.d8_6_neg : RomRow.Statement .d8_6_neg := fun _ => rfl
theorem RomRow.d9_6 : RomRow.Statement .d9_6 := fun _ => rfl
theorem RomRow.d10_6 : RomRow.Statement .d10_6 := fun _ => rfl
theorem RomRow.d11_6 : RomRow.Statement .d11_6 := fun _ => rfl
theorem RomRow.d12_6 : RomRow.Statement .d12_6 := fun _ => rfl
theorem RomRow.d13_6 : RomRow.Statement .d13_6 := fun _ => rfl
theorem RomRow.d14_6 : RomRow.Statement .d14_6 := fun _ => rfl
theorem RomRow.d15_6_pos : RomRow.Statement .d15_6_pos := fun _ => rfl
theorem RomRow.d15_6_neg : RomRow.Statement .d15_6_neg := fun _ => rfl
theorem RomRow.d16_6_pos : RomRow.Statement .d16_6_pos := fun _ => rfl
theorem RomRow.d16_6_neg : RomRow.Statement .d16_6_neg := fun _ => rfl
theorem RomRow.d17_6 : RomRow.Statement .d17_6 := fun _ => rfl
theorem RomRow.d18_6 : RomRow.Statement .d18_6 := fun _ => rfl
theorem RomRow.d19_6 : RomRow.Statement .d19_6 := fun _ => rfl
theorem RomRow.d20_6 : RomRow.Statement .d20_6 := fun _ => rfl
theorem RomRow.d21_6 : RomRow.Statement .d21_6 := fun _ => rfl
theorem RomRow.d22_6 : RomRow.Statement .d22_6 := fun _ => rfl
theorem RomRow.d23_6_pos : RomRow.Statement .d23_6_pos := fun _ => rfl
theorem RomRow.d23_6_neg : RomRow.Statement .d23_6_neg := fun _ => rfl
theorem RomRow.d24_6_pos : RomRow.Statement .d24_6_pos := fun _ => rfl
theorem RomRow.d24_6_neg : RomRow.Statement .d24_6_neg := fun _ => rfl
theorem RomRow.d25_6 : RomRow.Statement .d25_6 := fun _ => rfl
theorem RomRow.d26_6 : RomRow.Statement .d26_6 := fun _ => rfl
theorem RomRow.d27_6_pos : RomRow.Statement .d27_6_pos := fun _ => rfl
theorem RomRow.d27_6_neg : RomRow.Statement .d27_6_neg := fun _ => rfl
theorem RomRow.d28_6 : RomRow.Statement .d28_6 := fun _ => rfl
theorem RomRow.d29_6_pos : RomRow.Statement .d29_6_pos := fun _ => rfl
theorem RomRow.d29_6_neg : RomRow.Statement .d29_6_neg := fun _ => rfl
theorem RomRow.d30_6_pos : RomRow.Statement .d30_6_pos := fun _ => rfl
theorem RomRow.d30_6_neg : RomRow.Statement .d30_6_neg := fun _ => rfl
theorem RomRow.d31_6_pos : RomRow.Statement .d31_6_pos := fun _ => rfl
theorem RomRow.d31_6_neg : RomRow.Statement .d31_6_neg := fun _ => rfl
theorem RomRow.d0_7_pos : RomRow.Statement .d0_7_pos := fun _ => rfl
theorem RomRow.d0_7_neg : RomRow.Statement .d0_7_neg := fun _ => rfl
theorem RomRow.d1_7_pos : RomRow.Statement .d1_7_pos := fun _ => rfl
theorem RomRow.d1_7_neg : RomRow.Statement .d1_7_neg := fun _ => rfl
theorem RomRow.d2_7_pos : RomRow.Statement .d2_7_pos := fun _ => rfl
theorem RomRow.d2_7_neg : RomRow.Statement .d2_7_neg := fun _ => rfl
theorem RomRow.d3_7_pos : RomRow.Statement .d3_7_pos := fun _ => rfl
theorem RomRow.d3_7_neg : RomRow.Statement .d3_7_neg := fun _ => rfl
theorem RomRow.d4_7_pos : RomRow.Statement .d4_7_pos := fun _ => rfl
theorem RomRow.d4_7_neg : RomRow.Statement .d4_7_neg := fun _ => rfl
theorem RomRow.d5_7_pos : RomRow.Statement .d5_7_pos := fun _ => rfl
theorem RomRow.d5_7_neg : RomRow.Statement .d5_7_neg := fun _ => rfl
theorem RomRow.d6_7_pos : RomRow.Statement .d6_7_pos := fun _ => rfl
theorem RomRow.d6_7_neg : RomRow.Statement .d6_7_neg := fun _ => rfl
theorem RomRow.d7_7_pos : RomRow.Statement .d7_7_pos := fun _ => rfl
theorem RomRow.d7_7_neg : RomRow.Statement .d7_7_neg := fun _ => rfl
theorem RomRow.d8_7_pos : RomRow.Statement .d8_7_pos := fun _ => rfl
theorem RomRow.d8_7_neg : RomRow.Statement .d8_7_neg := fun _ => rfl
theorem RomRow.d9_7_pos : RomRow.Statement .d9_7_pos := fun _ => rfl
theorem RomRow.d9_7_neg : RomRow.Statement .d9_7_neg := fun _ => rfl
theorem RomRow.d10_7_pos : RomRow.Statement .d10_7_pos := fun _ => rfl
theorem RomRow.d10_7_neg : RomRow.Statement .d10_7_neg := fun _ => rfl
theorem RomRow.d11_7_pos : RomRow.Statement .d11_7_pos := fun _ => rfl
theorem RomRow.d11_7_neg : RomRow.Statement .d11_7_neg := fun _ => rfl
theorem RomRow.d12_7_pos : RomRow.Statement .d12_7_pos := fun _ => rfl
theorem RomRow.d12_7_neg : RomRow.Statement .d12_7_neg := fun _ => rfl
theorem RomRow.d13_7_pos : RomRow.Statement .d13_7_pos := fun _ => rfl
theorem RomRow.d13_7_neg : RomRow.Statement .d13_7_neg := fun _ => rfl
theorem RomRow.d14_7_pos : RomRow.Statement .d14_7_pos := fun _ => rfl
theorem RomRow.d14_7_neg : RomRow.Statement .d14_7_neg := fun _ => rfl
theorem RomRow.d15_7_pos : RomRow.Statement .d15_7_pos := fun _ => rfl
theorem RomRow.d15_7_neg : RomRow.Statement .d15_7_neg := fun _ => rfl
theorem RomRow.d16_7_pos : RomRow.Statement .d16_7_pos := fun _ => rfl
theorem RomRow.d16_7_neg : RomRow.Statement .d16_7_neg := fun _ => rfl
theorem RomRow.d17_7_pos : RomRow.Statement .d17_7_pos := fun _ => rfl
theorem RomRow.d17_7_neg : RomRow.Statement .d17_7_neg := fun _ => rfl
theorem RomRow.d18_7_pos : RomRow.Statement .d18_7_pos := fun _ => rfl
theorem RomRow.d18_7_neg : RomRow.Statement .d18_7_neg := fun _ => rfl
theorem RomRow.d19_7_pos : RomRow.Statement .d19_7_pos := fun _ => rfl
theorem RomRow.d19_7_neg : RomRow.Statement .d19_7_neg := fun _ => rfl
theorem RomRow.d20_7_pos : RomRow.Statement .d20_7_pos := fun _ => rfl
theorem RomRow.d20_7_neg : RomRow.Statement .d20_7_neg := fun _ => rfl
theorem RomRow.d21_7_pos : RomRow.Statement .d21_7_pos := fun _ => rfl
theorem RomRow.d21_7_neg : RomRow.Statement .d21_7_neg := fun _ => rfl
theorem RomRow.d22_7_pos : RomRow.Statement .d22_7_pos := fun _ => rfl
theorem RomRow.d22_7_neg : RomRow.Statement .d22_7_neg := fun _ => rfl
theorem RomRow.d23_7_pos : RomRow.Statement .d23_7_pos := fun _ => rfl
theorem RomRow.d23_7_neg : RomRow.Statement .d23_7_neg := fun _ => rfl
theorem RomRow.d24_7_pos : RomRow.Statement .d24_7_pos := fun _ => rfl
theorem RomRow.d24_7_neg : RomRow.Statement .d24_7_neg := fun _ => rfl
theorem RomRow.d25_7_pos : RomRow.Statement .d25_7_pos := fun _ => rfl
theorem RomRow.d25_7_neg : RomRow.Statement .d25_7_neg := fun _ => rfl
theorem RomRow.d26_7_pos : RomRow.Statement .d26_7_pos := fun _ => rfl
theorem RomRow.d26_7_neg : RomRow.Statement .d26_7_neg := fun _ => rfl
theorem RomRow.d27_7_pos : RomRow.Statement .d27_7_pos := fun _ => rfl
theorem RomRow.d27_7_neg : RomRow.Statement .d27_7_neg := fun _ => rfl
theorem RomRow.d28_7_pos : RomRow.Statement .d28_7_pos := fun _ => rfl
theorem RomRow.d28_7_neg : RomRow.Statement .d28_7_neg := fun _ => rfl
theorem RomRow.d29_7_pos : RomRow.Statement .d29_7_pos := fun _ => rfl
theorem RomRow.d29_7_neg : RomRow.Statement .d29_7_neg := fun _ => rfl
theorem RomRow.d30_7_pos : RomRow.Statement .d30_7_pos := fun _ => rfl
theorem RomRow.d30_7_neg : RomRow.Statement .d30_7_neg := fun _ => rfl
theorem RomRow.d31_7_pos : RomRow.Statement .d31_7_pos := fun _ => rfl
theorem RomRow.d31_7_neg : RomRow.Statement .d31_7_neg := fun _ => rfl
theorem RomRow.k28_0_pos : RomRow.Statement .k28_0_pos := fun _ => rfl
theorem RomRow.k28_0_neg : RomRow.Statement .k28_0_neg := fun _ => rfl
theorem RomRow.k28_1_pos : RomRow.Statement .k28_1_pos := fun _ => rfl
theorem RomRow.k28_1_neg : RomRow.Statement .k28_1_neg := fun _ => rfl
theorem RomRow.k28_2_pos : RomRow.Statement .k28_2_pos := fun _ => rfl
theorem RomRow.k28_2_neg : RomRow.Statement .k28_2_neg := fun _ => rfl
theorem RomRow.k28_3_pos : RomRow.Statement .k28_3_pos := fun _ => rfl
theorem RomRow.k28_3_neg : RomRow.Statement .k28_3_neg := fun _ => rfl
theorem RomRow.k28_4_pos : RomRow.Statement .k28_4_pos := fun _ => rfl
theorem RomRow.k28_4_neg : RomRow.Statement .k28_4_neg := fun _ => rfl
theorem RomRow.k28_5_pos : RomRow.Statement .k28_5_pos := fun _ => rfl
theorem RomRow.k28_5_neg : RomRow.Statement .k28_5_neg := fun _ => rfl
theorem RomRow.k28_6_pos : RomRow.Statement .k28_6_pos := fun _ => rfl
theorem RomRow.k28_6_neg : RomRow.Statement .k28_6_neg := fun _ => rfl
theorem RomRow.k23_7_pos : RomRow.Statement .k23_7_pos := fun _ => rfl
theorem RomRow.k23_7_neg : RomRow.Statement .k23_7_neg := fun _ => rfl
theorem RomRow.k27_7_pos : RomRow.Statement .k27_7_pos := fun _ => rfl
theorem RomRow.k27_7_neg : RomRow.Statement .k27_7_neg := fun _ => rfl
theorem RomRow.k28_7_pos : RomRow.Statement .k28_7_pos := fun _ => rfl
theorem RomRow.k28_7_neg : RomRow.Statement .k28_7_neg := fun _ => rfl
theorem RomRow.k29_7_pos : RomRow.Statement .k29_7_pos := fun _ => rfl
theorem RomRow.k29_7_neg : RomRow.Statement .k29_7_neg := fun _ => rfl
theorem RomRow.k30_7_pos : RomRow.Statement .k30_7_pos := fun _ => rfl
theorem RomRow.k30_7_neg : RomRow.Statement .k30_7_neg := fun _ => rfl

/-- The family's statement for every instruction. -/
theorem RomRow.all (i : Instr) : RomRow.Statement i := by
  cases i with
  | invalid w => exact RomRow.invalid w
  | d0_0_pos => exact RomRow.d0_0_pos
  | d0_0_neg => exact RomRow.d0_0_neg
  | d1_0_pos => exact RomRow.d1_0_pos
  | d1_0_neg => exact RomRow.d1_0_neg
  | d2_0_pos => exact RomRow.d2_0_pos
  | d2_0_neg => exact RomRow.d2_0_neg
  | d3_0_pos => exact RomRow.d3_0_pos
  | d3_0_neg => exact RomRow.d3_0_neg
  | d4_0_pos => exact RomRow.d4_0_pos
  | d4_0_neg => exact RomRow.d4_0_neg
  | d5_0_pos => exact RomRow.d5_0_pos
  | d5_0_neg => exact RomRow.d5_0_neg
  | d6_0_pos => exact RomRow.d6_0_pos
  | d6_0_neg => exact RomRow.d6_0_neg
  | d7_0_pos => exact RomRow.d7_0_pos
  | d7_0_neg => exact RomRow.d7_0_neg
  | d8_0_pos => exact RomRow.d8_0_pos
  | d8_0_neg => exact RomRow.d8_0_neg
  | d9_0_pos => exact RomRow.d9_0_pos
  | d9_0_neg => exact RomRow.d9_0_neg
  | d10_0_pos => exact RomRow.d10_0_pos
  | d10_0_neg => exact RomRow.d10_0_neg
  | d11_0_pos => exact RomRow.d11_0_pos
  | d11_0_neg => exact RomRow.d11_0_neg
  | d12_0_pos => exact RomRow.d12_0_pos
  | d12_0_neg => exact RomRow.d12_0_neg
  | d13_0_pos => exact RomRow.d13_0_pos
  | d13_0_neg => exact RomRow.d13_0_neg
  | d14_0_pos => exact RomRow.d14_0_pos
  | d14_0_neg => exact RomRow.d14_0_neg
  | d15_0_pos => exact RomRow.d15_0_pos
  | d15_0_neg => exact RomRow.d15_0_neg
  | d16_0_pos => exact RomRow.d16_0_pos
  | d16_0_neg => exact RomRow.d16_0_neg
  | d17_0_pos => exact RomRow.d17_0_pos
  | d17_0_neg => exact RomRow.d17_0_neg
  | d18_0_pos => exact RomRow.d18_0_pos
  | d18_0_neg => exact RomRow.d18_0_neg
  | d19_0_pos => exact RomRow.d19_0_pos
  | d19_0_neg => exact RomRow.d19_0_neg
  | d20_0_pos => exact RomRow.d20_0_pos
  | d20_0_neg => exact RomRow.d20_0_neg
  | d21_0_pos => exact RomRow.d21_0_pos
  | d21_0_neg => exact RomRow.d21_0_neg
  | d22_0_pos => exact RomRow.d22_0_pos
  | d22_0_neg => exact RomRow.d22_0_neg
  | d23_0_pos => exact RomRow.d23_0_pos
  | d23_0_neg => exact RomRow.d23_0_neg
  | d24_0_pos => exact RomRow.d24_0_pos
  | d24_0_neg => exact RomRow.d24_0_neg
  | d25_0_pos => exact RomRow.d25_0_pos
  | d25_0_neg => exact RomRow.d25_0_neg
  | d26_0_pos => exact RomRow.d26_0_pos
  | d26_0_neg => exact RomRow.d26_0_neg
  | d27_0_pos => exact RomRow.d27_0_pos
  | d27_0_neg => exact RomRow.d27_0_neg
  | d28_0_pos => exact RomRow.d28_0_pos
  | d28_0_neg => exact RomRow.d28_0_neg
  | d29_0_pos => exact RomRow.d29_0_pos
  | d29_0_neg => exact RomRow.d29_0_neg
  | d30_0_pos => exact RomRow.d30_0_pos
  | d30_0_neg => exact RomRow.d30_0_neg
  | d31_0_pos => exact RomRow.d31_0_pos
  | d31_0_neg => exact RomRow.d31_0_neg
  | d0_1_pos => exact RomRow.d0_1_pos
  | d0_1_neg => exact RomRow.d0_1_neg
  | d1_1_pos => exact RomRow.d1_1_pos
  | d1_1_neg => exact RomRow.d1_1_neg
  | d2_1_pos => exact RomRow.d2_1_pos
  | d2_1_neg => exact RomRow.d2_1_neg
  | d3_1 => exact RomRow.d3_1
  | d4_1_pos => exact RomRow.d4_1_pos
  | d4_1_neg => exact RomRow.d4_1_neg
  | d5_1 => exact RomRow.d5_1
  | d6_1 => exact RomRow.d6_1
  | d7_1_pos => exact RomRow.d7_1_pos
  | d7_1_neg => exact RomRow.d7_1_neg
  | d8_1_pos => exact RomRow.d8_1_pos
  | d8_1_neg => exact RomRow.d8_1_neg
  | d9_1 => exact RomRow.d9_1
  | d10_1 => exact RomRow.d10_1
  | d11_1 => exact RomRow.d11_1
  | d12_1 => exact RomRow.d12_1
  | d13_1 => exact RomRow.d13_1
  | d14_1 => exact RomRow.d14_1
  | d15_1_pos => exact RomRow.d15_1_pos
  | d15_1_neg => exact RomRow.d15_1_neg
  | d16_1_pos => exact RomRow.d16_1_pos
  | d16_1_neg => exact RomRow.d16_1_neg
  | d17_1 => exact RomRow.d17_1
  | d18_1 => exact RomRow.d18_1
  | d19_1 => exact RomRow.d19_1
  | d20_1 => exact RomRow.d20_1
  | d21_1 => exact RomRow.d21_1
  | d22_1 => exact RomRow.d22_1
  | d23_1_pos => exact RomRow.d23_1_pos
  | d23_1_neg => exact RomRow.d23_1_neg
  | d24_1_pos => exact RomRow.d24_1_pos
  | d24_1_neg => exact RomRow.d24_1_neg
  | d25_1 => exact RomRow.d25_1
  | d26_1 => exact RomRow.d26_1
  | d27_1_pos => exact RomRow.d27_1_pos
  | d27_1_neg => exact RomRow.d27_1_neg
  | d28_1 => exact RomRow.d28_1
  | d29_1_pos => exact RomRow.d29_1_pos
  | d29_1_neg => exact RomRow.d29_1_neg
  | d30_1_pos => exact RomRow.d30_1_pos
  | d30_1_neg => exact RomRow.d30_1_neg
  | d31_1_pos => exact RomRow.d31_1_pos
  | d31_1_neg => exact RomRow.d31_1_neg
  | d0_2_pos => exact RomRow.d0_2_pos
  | d0_2_neg => exact RomRow.d0_2_neg
  | d1_2_pos => exact RomRow.d1_2_pos
  | d1_2_neg => exact RomRow.d1_2_neg
  | d2_2_pos => exact RomRow.d2_2_pos
  | d2_2_neg => exact RomRow.d2_2_neg
  | d3_2 => exact RomRow.d3_2
  | d4_2_pos => exact RomRow.d4_2_pos
  | d4_2_neg => exact RomRow.d4_2_neg
  | d5_2 => exact RomRow.d5_2
  | d6_2 => exact RomRow.d6_2
  | d7_2_pos => exact RomRow.d7_2_pos
  | d7_2_neg => exact RomRow.d7_2_neg
  | d8_2_pos => exact RomRow.d8_2_pos
  | d8_2_neg => exact RomRow.d8_2_neg
  | d9_2 => exact RomRow.d9_2
  | d10_2 => exact RomRow.d10_2
  | d11_2 => exact RomRow.d11_2
  | d12_2 => exact RomRow.d12_2
  | d13_2 => exact RomRow.d13_2
  | d14_2 => exact RomRow.d14_2
  | d15_2_pos => exact RomRow.d15_2_pos
  | d15_2_neg => exact RomRow.d15_2_neg
  | d16_2_pos => exact RomRow.d16_2_pos
  | d16_2_neg => exact RomRow.d16_2_neg
  | d17_2 => exact RomRow.d17_2
  | d18_2 => exact RomRow.d18_2
  | d19_2 => exact RomRow.d19_2
  | d20_2 => exact RomRow.d20_2
  | d21_2 => exact RomRow.d21_2
  | d22_2 => exact RomRow.d22_2
  | d23_2_pos => exact RomRow.d23_2_pos
  | d23_2_neg => exact RomRow.d23_2_neg
  | d24_2_pos => exact RomRow.d24_2_pos
  | d24_2_neg => exact RomRow.d24_2_neg
  | d25_2 => exact RomRow.d25_2
  | d26_2 => exact RomRow.d26_2
  | d27_2_pos => exact RomRow.d27_2_pos
  | d27_2_neg => exact RomRow.d27_2_neg
  | d28_2 => exact RomRow.d28_2
  | d29_2_pos => exact RomRow.d29_2_pos
  | d29_2_neg => exact RomRow.d29_2_neg
  | d30_2_pos => exact RomRow.d30_2_pos
  | d30_2_neg => exact RomRow.d30_2_neg
  | d31_2_pos => exact RomRow.d31_2_pos
  | d31_2_neg => exact RomRow.d31_2_neg
  | d0_3_pos => exact RomRow.d0_3_pos
  | d0_3_neg => exact RomRow.d0_3_neg
  | d1_3_pos => exact RomRow.d1_3_pos
  | d1_3_neg => exact RomRow.d1_3_neg
  | d2_3_pos => exact RomRow.d2_3_pos
  | d2_3_neg => exact RomRow.d2_3_neg
  | d3_3_pos => exact RomRow.d3_3_pos
  | d3_3_neg => exact RomRow.d3_3_neg
  | d4_3_pos => exact RomRow.d4_3_pos
  | d4_3_neg => exact RomRow.d4_3_neg
  | d5_3_pos => exact RomRow.d5_3_pos
  | d5_3_neg => exact RomRow.d5_3_neg
  | d6_3_pos => exact RomRow.d6_3_pos
  | d6_3_neg => exact RomRow.d6_3_neg
  | d7_3_pos => exact RomRow.d7_3_pos
  | d7_3_neg => exact RomRow.d7_3_neg
  | d8_3_pos => exact RomRow.d8_3_pos
  | d8_3_neg => exact RomRow.d8_3_neg
  | d9_3_pos => exact RomRow.d9_3_pos
  | d9_3_neg => exact RomRow.d9_3_neg
  | d10_3_pos => exact RomRow.d10_3_pos
  | d10_3_neg => exact RomRow.d10_3_neg
  | d11_3_pos => exact RomRow.d11_3_pos
  | d11_3_neg => exact RomRow.d11_3_neg
  | d12_3_pos => exact RomRow.d12_3_pos
  | d12_3_neg => exact RomRow.d12_3_neg
  | d13_3_pos => exact RomRow.d13_3_pos
  | d13_3_neg => exact RomRow.d13_3_neg
  | d14_3_pos => exact RomRow.d14_3_pos
  | d14_3_neg => exact RomRow.d14_3_neg
  | d15_3_pos => exact RomRow.d15_3_pos
  | d15_3_neg => exact RomRow.d15_3_neg
  | d16_3_pos => exact RomRow.d16_3_pos
  | d16_3_neg => exact RomRow.d16_3_neg
  | d17_3_pos => exact RomRow.d17_3_pos
  | d17_3_neg => exact RomRow.d17_3_neg
  | d18_3_pos => exact RomRow.d18_3_pos
  | d18_3_neg => exact RomRow.d18_3_neg
  | d19_3_pos => exact RomRow.d19_3_pos
  | d19_3_neg => exact RomRow.d19_3_neg
  | d20_3_pos => exact RomRow.d20_3_pos
  | d20_3_neg => exact RomRow.d20_3_neg
  | d21_3_pos => exact RomRow.d21_3_pos
  | d21_3_neg => exact RomRow.d21_3_neg
  | d22_3_pos => exact RomRow.d22_3_pos
  | d22_3_neg => exact RomRow.d22_3_neg
  | d23_3_pos => exact RomRow.d23_3_pos
  | d23_3_neg => exact RomRow.d23_3_neg
  | d24_3_pos => exact RomRow.d24_3_pos
  | d24_3_neg => exact RomRow.d24_3_neg
  | d25_3_pos => exact RomRow.d25_3_pos
  | d25_3_neg => exact RomRow.d25_3_neg
  | d26_3_pos => exact RomRow.d26_3_pos
  | d26_3_neg => exact RomRow.d26_3_neg
  | d27_3_pos => exact RomRow.d27_3_pos
  | d27_3_neg => exact RomRow.d27_3_neg
  | d28_3_pos => exact RomRow.d28_3_pos
  | d28_3_neg => exact RomRow.d28_3_neg
  | d29_3_pos => exact RomRow.d29_3_pos
  | d29_3_neg => exact RomRow.d29_3_neg
  | d30_3_pos => exact RomRow.d30_3_pos
  | d30_3_neg => exact RomRow.d30_3_neg
  | d31_3_pos => exact RomRow.d31_3_pos
  | d31_3_neg => exact RomRow.d31_3_neg
  | d0_4_pos => exact RomRow.d0_4_pos
  | d0_4_neg => exact RomRow.d0_4_neg
  | d1_4_pos => exact RomRow.d1_4_pos
  | d1_4_neg => exact RomRow.d1_4_neg
  | d2_4_pos => exact RomRow.d2_4_pos
  | d2_4_neg => exact RomRow.d2_4_neg
  | d3_4_pos => exact RomRow.d3_4_pos
  | d3_4_neg => exact RomRow.d3_4_neg
  | d4_4_pos => exact RomRow.d4_4_pos
  | d4_4_neg => exact RomRow.d4_4_neg
  | d5_4_pos => exact RomRow.d5_4_pos
  | d5_4_neg => exact RomRow.d5_4_neg
  | d6_4_pos => exact RomRow.d6_4_pos
  | d6_4_neg => exact RomRow.d6_4_neg
  | d7_4_pos => exact RomRow.d7_4_pos
  | d7_4_neg => exact RomRow.d7_4_neg
  | d8_4_pos => exact RomRow.d8_4_pos
  | d8_4_neg => exact RomRow.d8_4_neg
  | d9_4_pos => exact RomRow.d9_4_pos
  | d9_4_neg => exact RomRow.d9_4_neg
  | d10_4_pos => exact RomRow.d10_4_pos
  | d10_4_neg => exact RomRow.d10_4_neg
  | d11_4_pos => exact RomRow.d11_4_pos
  | d11_4_neg => exact RomRow.d11_4_neg
  | d12_4_pos => exact RomRow.d12_4_pos
  | d12_4_neg => exact RomRow.d12_4_neg
  | d13_4_pos => exact RomRow.d13_4_pos
  | d13_4_neg => exact RomRow.d13_4_neg
  | d14_4_pos => exact RomRow.d14_4_pos
  | d14_4_neg => exact RomRow.d14_4_neg
  | d15_4_pos => exact RomRow.d15_4_pos
  | d15_4_neg => exact RomRow.d15_4_neg
  | d16_4_pos => exact RomRow.d16_4_pos
  | d16_4_neg => exact RomRow.d16_4_neg
  | d17_4_pos => exact RomRow.d17_4_pos
  | d17_4_neg => exact RomRow.d17_4_neg
  | d18_4_pos => exact RomRow.d18_4_pos
  | d18_4_neg => exact RomRow.d18_4_neg
  | d19_4_pos => exact RomRow.d19_4_pos
  | d19_4_neg => exact RomRow.d19_4_neg
  | d20_4_pos => exact RomRow.d20_4_pos
  | d20_4_neg => exact RomRow.d20_4_neg
  | d21_4_pos => exact RomRow.d21_4_pos
  | d21_4_neg => exact RomRow.d21_4_neg
  | d22_4_pos => exact RomRow.d22_4_pos
  | d22_4_neg => exact RomRow.d22_4_neg
  | d23_4_pos => exact RomRow.d23_4_pos
  | d23_4_neg => exact RomRow.d23_4_neg
  | d24_4_pos => exact RomRow.d24_4_pos
  | d24_4_neg => exact RomRow.d24_4_neg
  | d25_4_pos => exact RomRow.d25_4_pos
  | d25_4_neg => exact RomRow.d25_4_neg
  | d26_4_pos => exact RomRow.d26_4_pos
  | d26_4_neg => exact RomRow.d26_4_neg
  | d27_4_pos => exact RomRow.d27_4_pos
  | d27_4_neg => exact RomRow.d27_4_neg
  | d28_4_pos => exact RomRow.d28_4_pos
  | d28_4_neg => exact RomRow.d28_4_neg
  | d29_4_pos => exact RomRow.d29_4_pos
  | d29_4_neg => exact RomRow.d29_4_neg
  | d30_4_pos => exact RomRow.d30_4_pos
  | d30_4_neg => exact RomRow.d30_4_neg
  | d31_4_pos => exact RomRow.d31_4_pos
  | d31_4_neg => exact RomRow.d31_4_neg
  | d0_5_pos => exact RomRow.d0_5_pos
  | d0_5_neg => exact RomRow.d0_5_neg
  | d1_5_pos => exact RomRow.d1_5_pos
  | d1_5_neg => exact RomRow.d1_5_neg
  | d2_5_pos => exact RomRow.d2_5_pos
  | d2_5_neg => exact RomRow.d2_5_neg
  | d3_5 => exact RomRow.d3_5
  | d4_5_pos => exact RomRow.d4_5_pos
  | d4_5_neg => exact RomRow.d4_5_neg
  | d5_5 => exact RomRow.d5_5
  | d6_5 => exact RomRow.d6_5
  | d7_5_pos => exact RomRow.d7_5_pos
  | d7_5_neg => exact RomRow.d7_5_neg
  | d8_5_pos => exact RomRow.d8_5_pos
  | d8_5_neg => exact RomRow.d8_5_neg
  | d9_5 => exact RomRow.d9_5
  | d10_5 => exact RomRow.d10_5
  | d11_5 => exact RomRow.d11_5
  | d12_5 => exact RomRow.d12_5
  | d13_5 => exact RomRow.d13_5
  | d14_5 => exact RomRow.d14_5
  | d15_5_pos => exact RomRow.d15_5_pos
  | d15_5_neg => exact RomRow.d15_5_neg
  | d16_5_pos => exact RomRow.d16_5_pos
  | d16_5_neg => exact RomRow.d16_5_neg
  | d17_5 => exact RomRow.d17_5
  | d18_5 => exact RomRow.d18_5
  | d19_5 => exact RomRow.d19_5
  | d20_5 => exact RomRow.d20_5
  | d21_5 => exact RomRow.d21_5
  | d22_5 => exact RomRow.d22_5
  | d23_5_pos => exact RomRow.d23_5_pos
  | d23_5_neg => exact RomRow.d23_5_neg
  | d24_5_pos => exact RomRow.d24_5_pos
  | d24_5_neg => exact RomRow.d24_5_neg
  | d25_5 => exact RomRow.d25_5
  | d26_5 => exact RomRow.d26_5
  | d27_5_pos => exact RomRow.d27_5_pos
  | d27_5_neg => exact RomRow.d27_5_neg
  | d28_5 => exact RomRow.d28_5
  | d29_5_pos => exact RomRow.d29_5_pos
  | d29_5_neg => exact RomRow.d29_5_neg
  | d30_5_pos => exact RomRow.d30_5_pos
  | d30_5_neg => exact RomRow.d30_5_neg
  | d31_5_pos => exact RomRow.d31_5_pos
  | d31_5_neg => exact RomRow.d31_5_neg
  | d0_6_pos => exact RomRow.d0_6_pos
  | d0_6_neg => exact RomRow.d0_6_neg
  | d1_6_pos => exact RomRow.d1_6_pos
  | d1_6_neg => exact RomRow.d1_6_neg
  | d2_6_pos => exact RomRow.d2_6_pos
  | d2_6_neg => exact RomRow.d2_6_neg
  | d3_6 => exact RomRow.d3_6
  | d4_6_pos => exact RomRow.d4_6_pos
  | d4_6_neg => exact RomRow.d4_6_neg
  | d5_6 => exact RomRow.d5_6
  | d6_6 => exact RomRow.d6_6
  | d7_6_pos => exact RomRow.d7_6_pos
  | d7_6_neg => exact RomRow.d7_6_neg
  | d8_6_pos => exact RomRow.d8_6_pos
  | d8_6_neg => exact RomRow.d8_6_neg
  | d9_6 => exact RomRow.d9_6
  | d10_6 => exact RomRow.d10_6
  | d11_6 => exact RomRow.d11_6
  | d12_6 => exact RomRow.d12_6
  | d13_6 => exact RomRow.d13_6
  | d14_6 => exact RomRow.d14_6
  | d15_6_pos => exact RomRow.d15_6_pos
  | d15_6_neg => exact RomRow.d15_6_neg
  | d16_6_pos => exact RomRow.d16_6_pos
  | d16_6_neg => exact RomRow.d16_6_neg
  | d17_6 => exact RomRow.d17_6
  | d18_6 => exact RomRow.d18_6
  | d19_6 => exact RomRow.d19_6
  | d20_6 => exact RomRow.d20_6
  | d21_6 => exact RomRow.d21_6
  | d22_6 => exact RomRow.d22_6
  | d23_6_pos => exact RomRow.d23_6_pos
  | d23_6_neg => exact RomRow.d23_6_neg
  | d24_6_pos => exact RomRow.d24_6_pos
  | d24_6_neg => exact RomRow.d24_6_neg
  | d25_6 => exact RomRow.d25_6
  | d26_6 => exact RomRow.d26_6
  | d27_6_pos => exact RomRow.d27_6_pos
  | d27_6_neg => exact RomRow.d27_6_neg
  | d28_6 => exact RomRow.d28_6
  | d29_6_pos => exact RomRow.d29_6_pos
  | d29_6_neg => exact RomRow.d29_6_neg
  | d30_6_pos => exact RomRow.d30_6_pos
  | d30_6_neg => exact RomRow.d30_6_neg
  | d31_6_pos => exact RomRow.d31_6_pos
  | d31_6_neg => exact RomRow.d31_6_neg
  | d0_7_pos => exact RomRow.d0_7_pos
  | d0_7_neg => exact RomRow.d0_7_neg
  | d1_7_pos => exact RomRow.d1_7_pos
  | d1_7_neg => exact RomRow.d1_7_neg
  | d2_7_pos => exact RomRow.d2_7_pos
  | d2_7_neg => exact RomRow.d2_7_neg
  | d3_7_pos => exact RomRow.d3_7_pos
  | d3_7_neg => exact RomRow.d3_7_neg
  | d4_7_pos => exact RomRow.d4_7_pos
  | d4_7_neg => exact RomRow.d4_7_neg
  | d5_7_pos => exact RomRow.d5_7_pos
  | d5_7_neg => exact RomRow.d5_7_neg
  | d6_7_pos => exact RomRow.d6_7_pos
  | d6_7_neg => exact RomRow.d6_7_neg
  | d7_7_pos => exact RomRow.d7_7_pos
  | d7_7_neg => exact RomRow.d7_7_neg
  | d8_7_pos => exact RomRow.d8_7_pos
  | d8_7_neg => exact RomRow.d8_7_neg
  | d9_7_pos => exact RomRow.d9_7_pos
  | d9_7_neg => exact RomRow.d9_7_neg
  | d10_7_pos => exact RomRow.d10_7_pos
  | d10_7_neg => exact RomRow.d10_7_neg
  | d11_7_pos => exact RomRow.d11_7_pos
  | d11_7_neg => exact RomRow.d11_7_neg
  | d12_7_pos => exact RomRow.d12_7_pos
  | d12_7_neg => exact RomRow.d12_7_neg
  | d13_7_pos => exact RomRow.d13_7_pos
  | d13_7_neg => exact RomRow.d13_7_neg
  | d14_7_pos => exact RomRow.d14_7_pos
  | d14_7_neg => exact RomRow.d14_7_neg
  | d15_7_pos => exact RomRow.d15_7_pos
  | d15_7_neg => exact RomRow.d15_7_neg
  | d16_7_pos => exact RomRow.d16_7_pos
  | d16_7_neg => exact RomRow.d16_7_neg
  | d17_7_pos => exact RomRow.d17_7_pos
  | d17_7_neg => exact RomRow.d17_7_neg
  | d18_7_pos => exact RomRow.d18_7_pos
  | d18_7_neg => exact RomRow.d18_7_neg
  | d19_7_pos => exact RomRow.d19_7_pos
  | d19_7_neg => exact RomRow.d19_7_neg
  | d20_7_pos => exact RomRow.d20_7_pos
  | d20_7_neg => exact RomRow.d20_7_neg
  | d21_7_pos => exact RomRow.d21_7_pos
  | d21_7_neg => exact RomRow.d21_7_neg
  | d22_7_pos => exact RomRow.d22_7_pos
  | d22_7_neg => exact RomRow.d22_7_neg
  | d23_7_pos => exact RomRow.d23_7_pos
  | d23_7_neg => exact RomRow.d23_7_neg
  | d24_7_pos => exact RomRow.d24_7_pos
  | d24_7_neg => exact RomRow.d24_7_neg
  | d25_7_pos => exact RomRow.d25_7_pos
  | d25_7_neg => exact RomRow.d25_7_neg
  | d26_7_pos => exact RomRow.d26_7_pos
  | d26_7_neg => exact RomRow.d26_7_neg
  | d27_7_pos => exact RomRow.d27_7_pos
  | d27_7_neg => exact RomRow.d27_7_neg
  | d28_7_pos => exact RomRow.d28_7_pos
  | d28_7_neg => exact RomRow.d28_7_neg
  | d29_7_pos => exact RomRow.d29_7_pos
  | d29_7_neg => exact RomRow.d29_7_neg
  | d30_7_pos => exact RomRow.d30_7_pos
  | d30_7_neg => exact RomRow.d30_7_neg
  | d31_7_pos => exact RomRow.d31_7_pos
  | d31_7_neg => exact RomRow.d31_7_neg
  | k28_0_pos => exact RomRow.k28_0_pos
  | k28_0_neg => exact RomRow.k28_0_neg
  | k28_1_pos => exact RomRow.k28_1_pos
  | k28_1_neg => exact RomRow.k28_1_neg
  | k28_2_pos => exact RomRow.k28_2_pos
  | k28_2_neg => exact RomRow.k28_2_neg
  | k28_3_pos => exact RomRow.k28_3_pos
  | k28_3_neg => exact RomRow.k28_3_neg
  | k28_4_pos => exact RomRow.k28_4_pos
  | k28_4_neg => exact RomRow.k28_4_neg
  | k28_5_pos => exact RomRow.k28_5_pos
  | k28_5_neg => exact RomRow.k28_5_neg
  | k28_6_pos => exact RomRow.k28_6_pos
  | k28_6_neg => exact RomRow.k28_6_neg
  | k23_7_pos => exact RomRow.k23_7_pos
  | k23_7_neg => exact RomRow.k23_7_neg
  | k27_7_pos => exact RomRow.k27_7_pos
  | k27_7_neg => exact RomRow.k27_7_neg
  | k28_7_pos => exact RomRow.k28_7_pos
  | k28_7_neg => exact RomRow.k28_7_neg
  | k29_7_pos => exact RomRow.k29_7_pos
  | k29_7_neg => exact RomRow.k29_7_neg
  | k30_7_pos => exact RomRow.k30_7_pos
  | k30_7_neg => exact RomRow.k30_7_neg

end Sys2Proof.Laws
end

