-- ==== Sys2Proof/Laws/Exec.lean ====
section
/-! SUPPORT. Every codeword's meaning is the decode cycle on its codeword with the entry the table
holds for it; and the terms of the statements in the model's own words. -/

namespace Sys2Proof.Machine

/-- The meaning of an instruction is the decode cycle on its row's codeword and entry (R123). -/
theorem exec_eq_entry (i : Instr) (s : State) :
    exec i s = decodeCycle (encode i) (Laws.RomRow.entry i) s := by
  cases i <;> rfl

/-- The meaning of a well-formed instruction, over the encoder and the table (R90, R123). -/
theorem exec_eq_decodeCycle (i : Instr) (hi : i.WellFormed) (s : State) :
    exec i s = decodeCycle (encode i) (rom (encode i)) s := by
  rw [exec_eq_entry, Laws.RomRow.all i hi]

/-- `onesBelow` counts the positions below `n` whose bit is 1. -/
theorem onesBelow_eq_countP {k : Nat} (v : BitVec k) (n : Nat) :
    onesBelow v n = (List.range n).countP fun j => v.getLsbD j := by
  induction n with
  | zero => rfl
  | succ n ih =>
    rw [List.range_succ, List.countP_append, ← ih, onesBelow, Nat.add_comm]
    cases h : v.getLsbD n <;> simp [h]

/-- The model's ones count is the number of bits that are 1 (R100). -/
theorem ones_eq_bitCount (w : Codeword) : ones w = bitCount w := onesBelow_eq_countP w 10

/-- A decode cycle runs to its end where the model's two checks hold. -/
theorem cycleReady_iff (s : State) :
    CycleReady s ↔ windowFull s = true ∧ spanFits (centre s 0) s.tim.half = true := by
  have h : centre s 0 = s.idxq.headD 0 := by unfold centre; cases s.idxq <;> rfl
  simp [CycleReady, windowFull, spanFits, indexLimit, h, and_assoc]

/-- The two ends of the window's bit centres (R18). -/
theorem centre_of_cycleSpans {s : State} {newest oldest : SampleIdx}
    (h : CycleSpans s newest oldest) : centre s 0 = newest ∧ centre s 9 = oldest := by
  obtain ⟨-, -, h0, h9, -⟩ := h
  simp [centre, List.getD_eq_getElem?_getD, h0, h9]

theorem cycleReady_of_cycleSpans {s : State} {newest oldest : SampleIdx}
    (h : CycleSpans s newest oldest) : CycleReady s := by
  obtain ⟨hw, hq, h0, -, hf⟩ := h
  refine ⟨hw, hq, ?_⟩
  rw [List.headD_eq_head?_getD, List.head?_eq_getElem?, h0]
  exact hf

end Sys2Proof.Machine
end

