-- ==== Sys2Proof/Laws/Run.lean ====
section
/-! SUPPORT. All the channel primitives, the sampler's moves and the host's moves can do. -/

namespace Sys2Proof.Machine

/-- `nextTransition` finds nothing exactly when no transition lies after the cursor. -/
theorem nextTransition_eq_none (c : SampleIdx) (l : List SampleIdx) :
    nextTransition c l = none ↔ l.any (fun t => decide (c < t)) = false := by
  induction l with
  | nil => simp [nextTransition]
  | cons t ts ih =>
    unfold nextTransition
    cases h : nextTransition c ts with
    | none =>
      have := ih.mp h
      by_cases hc : c < t <;> simp_all
    | some u =>
      have : ts.any (fun t => decide (c < t)) = true := by
        by_contra hn
        rw [Bool.not_eq_true, ← ih, h] at hn
        cases hn
      simp only [List.any_cons, this, Bool.or_true]
      split <;> simp

/-- `nextTransition` finds the least transition after the cursor (R64). -/
theorem nextTransition_eq_some {c : SampleIdx} {l : List SampleIdx} {t : SampleIdx}
    (h : nextTransition c l = some t) :
    t ∈ l ∧ c < t ∧ ∀ u ∈ l, c < u → t ≤ u := by
  induction l generalizing t with
  | nil => simp [nextTransition] at h
  | cons a as ih =>
    unfold nextTransition at h
    cases h' : nextTransition c as with
    | none =>
      have hn := (nextTransition_eq_none c as).mp h'
      simp only [h'] at h
      split at h
      · rename_i hca
        cases h
        refine ⟨List.mem_cons_self, hca, fun u hu hcu => ?_⟩
        obtain rfl | hu := List.mem_cons.mp hu
        · exact BitVec.le_refl u
        · have := (List.any_eq_false.mp hn) u hu
          simp_all
      · cases h
    | some v =>
      obtain ⟨hv, hcv, hmin⟩ := ih h'
      simp only [h'] at h
      split at h
      · rename_i hca
        cases h
        refine ⟨List.mem_cons_self, hca.1, fun u hu hcu => ?_⟩
        obtain rfl | hu := List.mem_cons.mp hu
        · exact BitVec.le_refl u
        · have := hmin u hu hcu; bv_omega
      · rename_i hca
        cases h
        refine ⟨List.mem_cons_of_mem _ hv, hcv, fun u hu hcu => ?_⟩
        obtain rfl | hu := List.mem_cons.mp hu
        · by_contra hlt; exact hca ⟨hcu, by bv_omega⟩
        · exact hmin u hu hcu

/-- `Chan.more()` says whether `Chan.toNextTransition()` finds one. -/
theorem chanMore_iff (s : State) :
    chanMore s = true ↔ ∃ t, nextTransition s.cur s.chan.transitions = some t := by
  have h := nextTransition_eq_none s.cur s.chan.transitions
  unfold chanMore
  cases hn : nextTransition s.cur s.chan.transitions with
  | none => simp [h.mp hn]
  | some t =>
    rw [hn] at h
    obtain hb | hb := Bool.eq_false_or_eq_true (s.chan.transitions.any fun t => decide (s.cur < t))
    · simp only [hb, true_iff]; exact ⟨t, rfl⟩
    · cases h.mpr hb

/-- A crossing is a transition that remains. -/
theorem chanMore_of_wouldCross {n : Nat} {s : State} (h : chanWouldCross n s = true) :
    chanMore s = true := by
  simp only [chanWouldCross, chanMore, List.any_eq_true, Bool.and_eq_true] at *
  obtain ⟨t, ht, hc, -⟩ := h
  exact ⟨t, ht, hc⟩

/-- All `Chan.advance(n)` can do (R62). -/
theorem chanAdvance_cases (n : Nat) (s : State) :
    (s.cur.toNat + n < indexLimit ∧
      chanAdvance n s = .ok { s with cur := s.cur + BitVec.ofNat 64 n }) ∨
    (indexLimit ≤ s.cur.toNat + n ∧ chanAdvance n s = .error (.cursorOverflow s.cur n)) := by
  unfold chanAdvance
  split
  · exact .inl ⟨by assumption, rfl⟩
  · exact .inr ⟨by omega, rfl⟩

/-- The sampler's part of a bit step: it moved the cursor forward to the next bit centre, in phase Run,
and changed nothing else; or it raised `CursorOverflow`. -/
def SamplerMove (s : State) (base : SampleIdx) (n : Nat) (r : Except ModelFault State) : Prop :=
  (base.toNat + n < indexLimit ∧
    r = .ok { s with cur := base + BitVec.ofNat 64 n, phase := .run }) ∨
  (indexLimit ≤ base.toNat + n ∧ r = .error (.cursorOverflow base n))

/-- `ICO` where its register holds the whole number: every configuration but those of log entry 7. -/
theorem icoNumber_of_not_over {t : Timing} (h : t.icoOver = false) : icoNumber t = t.ico.toNat := by
  simp [icoNumber, h]

/-- A move by the number `ICO` that ends at a 64-bit index is one by the register, which holds it whole. -/
theorem icoNumber_fits {t : Timing} {n : Nat} (h : n + icoNumber t < indexLimit) :
    t.icoOver = false ∧ icoNumber t = t.ico.toNat := by
  cases ho : t.icoOver
  · exact ⟨rfl, icoNumber_of_not_over ho⟩
  · simp only [icoNumber, ho, if_true] at h; omega

/-- ACQUIRE's move (R68): to the first transition and on by `ICO`. -/
theorem acquireMove_cases {s : State} (h : chanMore s = true) :
    ∃ t, nextTransition s.cur s.chan.transitions = some t ∧
      SamplerMove s t (icoNumber s.tim) (acquireMove s) := by
  obtain ⟨t, ht⟩ := (chanMore_iff s).mp h
  refine ⟨t, ht, ?_⟩
  simp only [acquireMove, chanToNextTransition, ht]
  obtain ⟨hlt, ha⟩ | ⟨hge, ha⟩ := chanAdvance_cases (icoNumber s.tim) { s with cur := t }
  · exact .inl ⟨hlt, by rw [ha]⟩
  · exact .inr ⟨hge, by rw [ha]⟩

/-- The re-lock branch's move (R70): to the next transition and on by `OFS`. -/
theorem relockMove_cases {s : State} (hp : s.phase = .run) (h : chanMore s = true) :
    ∃ t, nextTransition s.cur s.chan.transitions = some t ∧
      SamplerMove s t s.tim.ofs.toNat (relockMove s) := by
  obtain ⟨t, ht⟩ := (chanMore_iff s).mp h
  refine ⟨t, ht, ?_⟩
  simp only [relockMove, chanToNextTransition, ht]
  obtain ⟨hlt, ha⟩ | ⟨hge, ha⟩ := chanAdvance_cases s.tim.ofs.toNat { s with cur := t }
  · exact .inl ⟨hlt, by rw [ha]; simp [hp]⟩
  · exact .inr ⟨hge, by rw [ha]⟩

/-- The free-running branch's move (R69): on by `SPB`. -/
theorem freeRunMove_cases {s : State} (hp : s.phase = .run) :
    SamplerMove s s.cur s.tim.spb.toNat (freeRunMove s) := by
  obtain ⟨hlt, ha⟩ | ⟨hge, ha⟩ := chanAdvance_cases s.tim.spb.toNat s
  · exact .inl ⟨hlt, by rw [freeRunMove, ha]; cases s; simp_all⟩
  · exact .inr ⟨hge, by rw [freeRunMove, ha]⟩

/-- `lockOnComma` either leaves the state as it is or synchronizes it. -/
theorem lockOnComma_cases (s : State) :
    (s.sync = .unsynchronized ∧ s.wlen = 10 ∧ isCommaPattern s.win = true ∧
      lockOnComma s = { s with sync := .synchronized }) ∨
    (¬(s.sync = .unsynchronized ∧ s.wlen = 10 ∧ isCommaPattern s.win = true) ∧
      lockOnComma s = s) := by
  unfold lockOnComma
  split <;> simp_all

@[simp] theorem pushBit_win (s : State) :
    (pushBit s).win = (s.win <<< 1) ||| (BitVec.ofBool (chanLevel s)).setWidth 10 := by
  simp [pushBit]

@[simp] theorem pushBit_wlen (s : State) : (pushBit s).wlen = min (s.wlen + 1) 10 := by
  simp [pushBit]

@[simp] theorem pushBit_idxq (s : State) : (pushBit s).idxq = (s.cur :: s.idxq).take 10 := by
  simp [pushBit, chanIndex]

/-- `PushBit` synchronizes a hunting core on a full comma window, and changes `SYNC` nowhere else. -/
theorem pushBit_sync (s : State) :
    (pushBit s).sync =
      if s.sync = .unsynchronized ∧ (pushBit s).wlen = 10 ∧ isCommaPattern (pushBit s).win then
        .synchronized
      else s.sync := by
  simp only [pushBit_win, pushBit_wlen]
  unfold pushBit lockOnComma
  rw [apply_ite State.sync]
  rfl

/-- A step at a host move other than `pass` is over, and is one of these (R121, R125, R127). -/
theorem hostFetch_cases (m : HostMove) (s : State) (hm : m ≠ .pass) :
    hostFetch m s = .settled (.next s) ∨
    (∃ c, atRest s = true ∧ hostFetch m s = .settled (.next { s with cfg := c })) ∨
    (∃ c, atRest s = true ∧ c.wf = true ∧ hostFetch m s = .settled (.next { s with chan := c })) ∨
    (m = .start ∧ atRest s = true ∧ configLegal s.cfg = true ∧
      hostFetch m s = .settled (.next (resetContext s))) ∨
    (m = .start ∧ atRest s = true ∧ configLegal s.cfg = false ∧
      hostFetch m s =
        .settled (.next (setFault (.configIllegal s.cfg.bitRate s.cfg.sampleRate) s))) ∨
    (m = .stop ∧ atRest s = false ∧ hostFetch m s = .settled (.next (endRun s))) := by
  obtain hr | hr := Bool.eq_false_or_eq_true (atRest s) <;> cases m
  case inl.bindWaveform c => cases hc : c.wf <;> simp [hostFetch, bindWaveform, hr, hc]
  case inl.start => cases hc : configLegal s.cfg <;> simp [hostFetch, start, raise, hr, hc]
  all_goals simp_all [hostFetch, configure, bindWaveform, start, stop]

end Sys2Proof.Machine
end

