-- ==== Sys2Proof/Laws/Step.lean ====
section
/-! SUPPORT. All a step can do: what the core's step does, what a host move does, and the one inversion
lemma of `step` that the others are read off. -/

namespace Sys2Proof.Machine

/-- A bit step that began at `s`, once the cursor stands at `base` and moves on by `n`: `t` is the
state after it. -/
inductive BitStepped (s : State) (base : SampleIdx) (n : Nat) (t : State) : Prop
  /-- The cursor's move overflows (R62). -/
  | moveOverflow (h : indexLimit ≤ base.toNat + n)
      (ht : t = setFault (.cursorOverflow base n) s)
  /-- No decode cycle is due (R82). -/
  | hunted (s1 : State) (h : base.toNat + n < indexLimit)
      (hs : s1 = { s with cur := base + BitVec.ofNat 64 n, phase := .run })
      (hd : cycleDue (pushBit s1) = false) (ht : t = pushBit s1)
  /-- A decode cycle runs (R83, R84, R123). -/
  | cycled (s1 : State) (h : base.toNat + n < indexLimit)
      (hs : s1 = { s with cur := base + BitVec.ofNat 64 n, phase := .run })
      (hd : cycleDue (pushBit s1) = true) (hw : windowFull (pushBit s1) = true)
      (hf : spanFits (centre (pushBit s1) 0) (pushBit s1).tim.half = true)
      (ht : t = deliver (cycleRecord (pushBit s1).win (rom (pushBit s1).win) (pushBit s1))
        (afterWindow (pushBit s1).win (pushBit s1)))
  /-- The span of the decode cycle overflows (R86). -/
  | spanOverflow (s1 : State) (h : base.toNat + n < indexLimit)
      (hs : s1 = { s with cur := base + BitVec.ofNat 64 n, phase := .run })
      (hd : cycleDue (pushBit s1) = true)
      (ht : t = setFault (.cursorOverflow (centre (pushBit s1) 0) (pushBit s1).tim.half.toNat) s)

/-- The core's step from `s` to `t` (R122). -/
inductive CoreStepped (s t : State) : Prop
  /-- No step is enabled (R126). -/
  | rested (hp : atRest s = true) (ht : t = s)
  /-- END (R68, R71, R124). -/
  | ended (hp : atRest s = false) (hm : chanMore s = false) (ht : t = endRun s)
  /-- ACQUIRE (R68). -/
  | acquired (hp : s.phase = .acquire) (base : SampleIdx)
      (hn : nextTransition s.cur s.chan.transitions = some base)
      (hb : BitStepped s base (icoNumber s.tim) t)
  /-- BITSTEP, free-running (R69). -/
  | freeRan (hp : s.phase = .run) (hm : chanMore s = true)
      (hc : chanWouldCross s.tim.spb.toNat s = false)
      (hb : BitStepped s s.cur s.tim.spb.toNat t)
  /-- BITSTEP, re-lock (R70). -/
  | relocked (hp : s.phase = .run) (hc : chanWouldCross s.tim.spb.toNat s = true)
      (base : SampleIdx) (hn : nextTransition s.cur s.chan.transitions = some base)
      (hb : BitStepped s base s.tim.ofs.toNat t)

/-- The host move `m`, other than `pass`, from `s` to `t`. -/
inductive HostMoved (m : HostMove) (s t : State) : Prop
  /-- The move is not enabled (R127). -/
  | notEnabled (ht : t = s)
  /-- A configuration write. -/
  | configured (c : CfgRegs) (hp : atRest s = true) (ht : t = { s with cfg := c })
  /-- A waveform bound. -/
  | bound (c : Waveform) (hp : atRest s = true) (hc : c.wf = true) (ht : t = { s with chan := c })
  /-- START (R121). -/
  | started (hm : m = .start) (hp : atRest s = true) (hc : configLegal s.cfg = true)
      (ht : t = resetContext s)
  /-- START on an illegal configuration (R121). -/
  | startRefused (hm : m = .start) (hp : atRest s = true) (hc : configLegal s.cfg = false)
      (ht : t = setFault (.configIllegal s.cfg.bitRate s.cfg.sampleRate) s)
  /-- STOP (R125). -/
  | stopped (hm : m = .stop) (hp : atRest s = false) (ht : t = endRun s)

/-- What `step` makes of what was fetched. -/
def settle : Fetched → Result
  | .settled o => o
  | .window base s' => commit base (exec (decode s'.win) s')

theorem step_eq_settle (s : State) : step s = settle (fetch s) := by
  unfold step settle; cases fetch s <;> rfl

/-- The sampler's move and the bit it pushes. -/
theorem bitStepped_of_sampleBit {s t : State} {base : SampleIdx} {n : Nat}
    {r : Except ModelFault State} (hf : s.fault = none) (hr : SamplerMove s base n r)
    (h : settle (sampleBit s r) = .next t) : BitStepped s base n t := by
  obtain ⟨hlt, rfl⟩ | ⟨hge, rfl⟩ := hr
  · let s1 : State := { s with cur := base + BitVec.ofNat 64 n, phase := .run }
    have hf1 : (pushBit s1).fault = none := by simpa [s1] using hf
    obtain hd | hd := Bool.eq_false_or_eq_true (cycleDue (pushBit s1))
    · have h' : commit s (exec (decode (pushBit s1).win) (pushBit s1)) = .next t := by
        simpa [settle, sampleBit, s1, hd] using h
      rw [exec_eq_decodeCycle _ (decode_wellFormed _), encode_decode_word] at h'
      obtain ⟨hw, hfit, he⟩ | ⟨hw, hfit, he⟩ | ⟨hw, he⟩ :=
        decodeCycle_cases (pushBit s1).win (rom (pushBit s1).win) (pushBit s1)
      · rw [he, commit_next (by simpa using hf1)] at h'
        exact .cycled s1 hlt rfl hd hw hfit (by cases h'; rfl)
      · rw [he, commit_fault (setFault_fault _ _)] at h'
        exact .spanOverflow s1 hlt rfl hd (by cases h'; rfl)
      · rw [he] at h'; cases h'
    · have h' : Host.Outcome.next (pushBit s1) = (.next t : Result) := by
        simpa [settle, sampleBit, s1, hd] using h
      exact .hunted s1 hlt rfl hd (by cases h'; rfl)
  · exact .moveOverflow hge (by simp [settle, sampleBit, raise] at h; exact h.symm)

/-- All the core's step can do. -/
theorem coreStepped_of_coreFetch {s t : State} (hf : s.fault = none)
    (h : settle (coreFetch s) = .next t) : CoreStepped s t := by
  unfold coreFetch at h
  split at h
  · rename_i hp; exact .rested (by simp [atRest, hp]) (by cases h; rfl)
  · rename_i hp; exact .rested (by simp [atRest, hp]) (by cases h; rfl)
  · rename_i hp
    split at h
    · rename_i hm
      obtain ⟨b, hn, hr⟩ := acquireMove_cases hm
      exact .acquired hp b hn (bitStepped_of_sampleBit hf hr h)
    · rename_i hm
      exact .ended (by simp [atRest, hp]) (by simpa using hm) (by cases h; rfl)
  · rename_i hp
    split at h
    · rename_i hm
      split at h
      · rename_i hc
        obtain ⟨b, hn, hr⟩ := relockMove_cases hp hm
        exact .relocked hp hc b hn (bitStepped_of_sampleBit hf hr h)
      · rename_i hc
        exact .freeRan hp hm (by simpa using hc)
          (bitStepped_of_sampleBit hf (freeRunMove_cases hp) h)
    · rename_i hm
      exact .ended (by simp [atRest, hp]) (by simpa using hm) (by cases h; rfl)

/-- All a host move other than `pass` can do. -/
theorem hostMoved_of_hostFetch {m : HostMove} {s t : State} (hm : m ≠ .pass)
    (h : settle (hostFetch m s) = .next t) : HostMoved m s t := by
  obtain e | ⟨c, hr, e⟩ | ⟨c, hr, hc, e⟩ | ⟨hs, hr, hc, e⟩ | ⟨hs, hr, hc, e⟩ | ⟨hs, hr, e⟩ :=
    hostFetch_cases m s hm <;> rw [e] at h <;> cases h
  · exact .notEnabled rfl
  · exact .configured c hr rfl
  · exact .bound c hr hc rfl
  · exact .started hs hr hc rfl
  · exact .startRefused hs hr hc rfl
  · exact .stopped hs hr rfl

/-- All a step can do: from a state without a fault, the core steps or the host moves, the host's move
taken from the list either way. -/
theorem step_cases {s t : State} (h : step s = .next t) :
    s.fault = none ∧
      (CoreStepped { s with host := s.host.tail } t ∧ (s.host = [] ∨ s.host.head? = some .pass) ∨
        ∃ m, s.host.head? = some m ∧ m ≠ .pass ∧ HostMoved m { s with host := s.host.tail } t) := by
  rw [step_eq_settle] at h
  unfold fetch at h
  split at h
  · cases h
  · rename_i hf
    refine ⟨hf, ?_⟩
    split at h
    · rename_i hh
      refine .inl ⟨?_, .inl hh⟩
      have : ({ s with host := s.host.tail } : State) = s := by cases s; simp_all
      rw [this]
      exact coreStepped_of_coreFetch hf h
    · rename_i m ms hh
      by_cases hm : m = .pass
      · subst hm
        refine .inl ⟨?_, .inr (by simp [hh])⟩
        rw [hh]
        exact coreStepped_of_coreFetch (by simpa using hf) h
      · refine .inr ⟨m, by simp [hh], hm, ?_⟩
        rw [hh]
        exact hostMoved_of_hostFetch hm h

/-- A bit step that began at `s`, the cursor's way left out: a fault, a bit pushed, or a bit pushed and a
decode cycle, at a cursor no earlier than `s`'s. -/
inductive BitOutcome (s t : State) : Prop
  | fault (b : SampleIdx) (n : Nat) (ht : t = setFault (.cursorOverflow b n) s)
  | pushed (c : SampleIdx) (hc : s.cur ≤ c)
      (hd : cycleDue (pushBit { s with cur := c, phase := .run }) = false)
      (ht : t = pushBit { s with cur := c, phase := .run })
  | cycled (c : SampleIdx) (hc : s.cur ≤ c) (u : State)
      (hu : u = pushBit { s with cur := c, phase := .run }) (hd : cycleDue u = true)
      (hw : windowFull u = true) (hf : spanFits (centre u 0) u.tim.half = true)
      (ht : t = deliver (cycleRecord u.win (rom u.win) u) (afterWindow u.win u))

theorem bitOutcome_of_bitStepped {s t : State} {b : SampleIdx} {n : Nat} (hb : s.cur ≤ b)
    (h : BitStepped s b n t) : BitOutcome s t := by
  have hle (hlt : b.toNat + n < indexLimit) : s.cur ≤ b + BitVec.ofNat 64 n := by
    unfold indexLimit at hlt; bv_omega
  cases h with
  | moveOverflow h ht => exact .fault _ _ ht
  | hunted s1 h hs hd ht => subst hs; exact .pushed _ (hle h) hd ht
  | cycled s1 h hs hd hw hf ht => subst hs; exact .cycled _ (hle h) _ rfl hd hw hf ht
  | spanOverflow s1 h hs hd ht => exact .fault _ _ ht

/-- What a step from `s` to `t` comes to, for invariants that do not read the host's moves. -/
inductive Stepped (s t : State) : Prop
  /-- Nothing but the host's list changes. -/
  | stayed (ht : t = { s with host := s.host.tail })
  /-- END, by the core or by STOP. -/
  | ended (hp : atRest s = false) (ht : t = endRun { s with host := s.host.tail })
  /-- A bit step. -/
  | bit (hp : atRest s = false) (hb : BitOutcome { s with host := s.host.tail } t)
  /-- A configuration write. -/
  | configured (c : CfgRegs) (hp : atRest s = true)
      (ht : t = { s with cfg := c, host := s.host.tail })
  /-- A waveform bound. -/
  | bound (c : Waveform) (hp : atRest s = true) (hc : c.wf = true)
      (ht : t = { s with chan := c, host := s.host.tail })
  /-- START. -/
  | started (hm : s.host.head? = some .start) (hp : atRest s = true)
      (hc : configLegal s.cfg = true) (ht : t = resetContext { s with host := s.host.tail })
  /-- START on an illegal configuration. -/
  | startRefused (hm : s.host.head? = some .start) (hp : atRest s = true)
      (hc : configLegal s.cfg = false)
      (ht : t = setFault (.configIllegal s.cfg.bitRate s.cfg.sampleRate)
        { s with host := s.host.tail })

/-- `step_cases`, coarsened. -/
theorem stepped_of_step {s t : State} (h : step s = .next t) : s.fault = none ∧ Stepped s t := by
  obtain ⟨hf, ⟨hs, -⟩ | ⟨m, hm, -, hs⟩⟩ := step_cases h
  · refine ⟨hf, ?_⟩
    cases hs with
    | rested hp ht => exact .stayed ht
    | ended hp hm ht => exact .ended hp ht
    | acquired hp b hn hb =>
      refine .bit (by simp [atRest, show s.phase = .acquire from hp]) (bitOutcome_of_bitStepped ?_ hb)
      have := (nextTransition_eq_some hn).2.1
      bv_omega
    | freeRan hp hm hc hb =>
      exact .bit (by simp [atRest, show s.phase = .run from hp])
        (bitOutcome_of_bitStepped (BitVec.le_refl _) hb)
    | relocked hp hc b hn hb =>
      refine .bit (by simp [atRest, show s.phase = .run from hp]) (bitOutcome_of_bitStepped ?_ hb)
      have := (nextTransition_eq_some hn).2.1
      bv_omega
  · refine ⟨hf, ?_⟩
    cases hs with
    | notEnabled ht => exact .stayed ht
    | configured c hp ht => exact .configured c hp ht
    | bound c hp hc ht => exact .bound c hp hc ht
    | started hs hp hc ht => exact .started (by rw [hm, hs]) hp hc ht
    | startRefused hs hp hc ht => exact .startRefused (by rw [hm, hs]) hp hc ht
    | stopped hs hp ht => exact .ended hp ht

end Sys2Proof.Machine
end

