-- ==== Sys2Proof/Tests/Slice0.lean ====
section
/-! SUPPORT. The model's own tests: the well-formedness smoke test, every constructor's word, one-step
tests whose results are those of 95_test_vectors.md, and a witness for the hypotheses of every statement
in Certificates/Slice0/Obligations.lean. -/

namespace Sys2Proof.Tests

open Sys2Proof.Machine

/-! ### Well-formedness -/

/-- An `invalid` whose codeword the table holds (K28.5 RD−) is refused. -/
theorem test_invalid_with_a_table_codeword_is_ill_formed : ¬ (Instr.invalid 0x0FA).WellFormed := by decide

/-- An `invalid` whose codeword the table misses is accepted. -/
theorem test_invalid_with_a_missing_codeword_is_well_formed : (Instr.invalid 0x188).WellFormed := by decide

/-- A table row carries no operand to check. -/
theorem test_table_row_is_well_formed : Instr.d0_0_pos.WellFormed := by decide

/-! ### Every constructor's word, in transmission order (the table's column "encoding") -/

/-- The data rows D.x.0: each word and the constructor it stands for. -/
def words_d_y0 : List (Codeword × Instr) :=
  [(0b0110001011, .d0_0_pos), (0b1001110100, .d0_0_neg), (0b1000101011, .d1_0_pos),
    (0b0111010100, .d1_0_neg), (0b0100101011, .d2_0_pos), (0b1011010100, .d2_0_neg),
    (0b1100010100, .d3_0_pos), (0b1100011011, .d3_0_neg), (0b0010101011, .d4_0_pos),
    (0b1101010100, .d4_0_neg), (0b1010010100, .d5_0_pos), (0b1010011011, .d5_0_neg),
    (0b0110010100, .d6_0_pos), (0b0110011011, .d6_0_neg), (0b0001110100, .d7_0_pos),
    (0b1110001011, .d7_0_neg), (0b0001101011, .d8_0_pos), (0b1110010100, .d8_0_neg),
    (0b1001010100, .d9_0_pos), (0b1001011011, .d9_0_neg), (0b0101010100, .d10_0_pos),
    (0b0101011011, .d10_0_neg), (0b1101000100, .d11_0_pos), (0b1101001011, .d11_0_neg),
    (0b0011010100, .d12_0_pos), (0b0011011011, .d12_0_neg), (0b1011000100, .d13_0_pos),
    (0b1011001011, .d13_0_neg), (0b0111000100, .d14_0_pos), (0b0111001011, .d14_0_neg),
    (0b1010001011, .d15_0_pos), (0b0101110100, .d15_0_neg), (0b1001001011, .d16_0_pos),
    (0b0110110100, .d16_0_neg), (0b1000110100, .d17_0_pos), (0b1000111011, .d17_0_neg),
    (0b0100110100, .d18_0_pos), (0b0100111011, .d18_0_neg), (0b1100100100, .d19_0_pos),
    (0b1100101011, .d19_0_neg), (0b0010110100, .d20_0_pos), (0b0010111011, .d20_0_neg),
    (0b1010100100, .d21_0_pos), (0b1010101011, .d21_0_neg), (0b0110100100, .d22_0_pos),
    (0b0110101011, .d22_0_neg), (0b0001011011, .d23_0_pos), (0b1110100100, .d23_0_neg),
    (0b0011001011, .d24_0_pos), (0b1100110100, .d24_0_neg), (0b1001100100, .d25_0_pos),
    (0b1001101011, .d25_0_neg), (0b0101100100, .d26_0_pos), (0b0101101011, .d26_0_neg),
    (0b0010011011, .d27_0_pos), (0b1101100100, .d27_0_neg), (0b0011100100, .d28_0_pos),
    (0b0011101011, .d28_0_neg), (0b0100011011, .d29_0_pos), (0b1011100100, .d29_0_neg),
    (0b1000011011, .d30_0_pos), (0b0111100100, .d30_0_neg), (0b0101001011, .d31_0_pos),
    (0b1010110100, .d31_0_neg)]

theorem test_decode_words_d_y0 : ∀ p ∈ words_d_y0, decode p.1 = p.2 := by decide

/-- The data rows D.x.1: each word and the constructor it stands for. -/
def words_d_y1 : List (Codeword × Instr) :=
  [(0b0110001001, .d0_1_pos), (0b1001111001, .d0_1_neg), (0b1000101001, .d1_1_pos),
    (0b0111011001, .d1_1_neg), (0b0100101001, .d2_1_pos), (0b1011011001, .d2_1_neg),
    (0b1100011001, .d3_1), (0b0010101001, .d4_1_pos), (0b1101011001, .d4_1_neg),
    (0b1010011001, .d5_1), (0b0110011001, .d6_1), (0b0001111001, .d7_1_pos),
    (0b1110001001, .d7_1_neg), (0b0001101001, .d8_1_pos), (0b1110011001, .d8_1_neg),
    (0b1001011001, .d9_1), (0b0101011001, .d10_1), (0b1101001001, .d11_1),
    (0b0011011001, .d12_1), (0b1011001001, .d13_1), (0b0111001001, .d14_1),
    (0b1010001001, .d15_1_pos), (0b0101111001, .d15_1_neg), (0b1001001001, .d16_1_pos),
    (0b0110111001, .d16_1_neg), (0b1000111001, .d17_1), (0b0100111001, .d18_1),
    (0b1100101001, .d19_1), (0b0010111001, .d20_1), (0b1010101001, .d21_1),
    (0b0110101001, .d22_1), (0b0001011001, .d23_1_pos), (0b1110101001, .d23_1_neg),
    (0b0011001001, .d24_1_pos), (0b1100111001, .d24_1_neg), (0b1001101001, .d25_1),
    (0b0101101001, .d26_1), (0b0010011001, .d27_1_pos), (0b1101101001, .d27_1_neg),
    (0b0011101001, .d28_1), (0b0100011001, .d29_1_pos), (0b1011101001, .d29_1_neg),
    (0b1000011001, .d30_1_pos), (0b0111101001, .d30_1_neg), (0b0101001001, .d31_1_pos),
    (0b1010111001, .d31_1_neg)]

theorem test_decode_words_d_y1 : ∀ p ∈ words_d_y1, decode p.1 = p.2 := by decide

/-- The data rows D.x.2: each word and the constructor it stands for. -/
def words_d_y2 : List (Codeword × Instr) :=
  [(0b0110000101, .d0_2_pos), (0b1001110101, .d0_2_neg), (0b1000100101, .d1_2_pos),
    (0b0111010101, .d1_2_neg), (0b0100100101, .d2_2_pos), (0b1011010101, .d2_2_neg),
    (0b1100010101, .d3_2), (0b0010100101, .d4_2_pos), (0b1101010101, .d4_2_neg),
    (0b1010010101, .d5_2), (0b0110010101, .d6_2), (0b0001110101, .d7_2_pos),
    (0b1110000101, .d7_2_neg), (0b0001100101, .d8_2_pos), (0b1110010101, .d8_2_neg),
    (0b1001010101, .d9_2), (0b0101010101, .d10_2), (0b1101000101, .d11_2),
    (0b0011010101, .d12_2), (0b1011000101, .d13_2), (0b0111000101, .d14_2),
    (0b1010000101, .d15_2_pos), (0b0101110101, .d15_2_neg), (0b1001000101, .d16_2_pos),
    (0b0110110101, .d16_2_neg), (0b1000110101, .d17_2), (0b0100110101, .d18_2),
    (0b1100100101, .d19_2), (0b0010110101, .d20_2), (0b1010100101, .d21_2),
    (0b0110100101, .d22_2), (0b0001010101, .d23_2_pos), (0b1110100101, .d23_2_neg),
    (0b0011000101, .d24_2_pos), (0b1100110101, .d24_2_neg), (0b1001100101, .d25_2),
    (0b0101100101, .d26_2), (0b0010010101, .d27_2_pos), (0b1101100101, .d27_2_neg),
    (0b0011100101, .d28_2), (0b0100010101, .d29_2_pos), (0b1011100101, .d29_2_neg),
    (0b1000010101, .d30_2_pos), (0b0111100101, .d30_2_neg), (0b0101000101, .d31_2_pos),
    (0b1010110101, .d31_2_neg)]

theorem test_decode_words_d_y2 : ∀ p ∈ words_d_y2, decode p.1 = p.2 := by decide

/-- The data rows D.x.3: each word and the constructor it stands for. -/
def words_d_y3 : List (Codeword × Instr) :=
  [(0b0110001100, .d0_3_pos), (0b1001110011, .d0_3_neg), (0b1000101100, .d1_3_pos),
    (0b0111010011, .d1_3_neg), (0b0100101100, .d2_3_pos), (0b1011010011, .d2_3_neg),
    (0b1100010011, .d3_3_pos), (0b1100011100, .d3_3_neg), (0b0010101100, .d4_3_pos),
    (0b1101010011, .d4_3_neg), (0b1010010011, .d5_3_pos), (0b1010011100, .d5_3_neg),
    (0b0110010011, .d6_3_pos), (0b0110011100, .d6_3_neg), (0b0001110011, .d7_3_pos),
    (0b1110001100, .d7_3_neg), (0b0001101100, .d8_3_pos), (0b1110010011, .d8_3_neg),
    (0b1001010011, .d9_3_pos), (0b1001011100, .d9_3_neg), (0b0101010011, .d10_3_pos),
    (0b0101011100, .d10_3_neg), (0b1101000011, .d11_3_pos), (0b1101001100, .d11_3_neg),
    (0b0011010011, .d12_3_pos), (0b0011011100, .d12_3_neg), (0b1011000011, .d13_3_pos),
    (0b1011001100, .d13_3_neg), (0b0111000011, .d14_3_pos), (0b0111001100, .d14_3_neg),
    (0b1010001100, .d15_3_pos), (0b0101110011, .d15_3_neg), (0b1001001100, .d16_3_pos),
    (0b0110110011, .d16_3_neg), (0b1000110011, .d17_3_pos), (0b1000111100, .d17_3_neg),
    (0b0100110011, .d18_3_pos), (0b0100111100, .d18_3_neg), (0b1100100011, .d19_3_pos),
    (0b1100101100, .d19_3_neg), (0b0010110011, .d20_3_pos), (0b0010111100, .d20_3_neg),
    (0b1010100011, .d21_3_pos), (0b1010101100, .d21_3_neg), (0b0110100011, .d22_3_pos),
    (0b0110101100, .d22_3_neg), (0b0001011100, .d23_3_pos), (0b1110100011, .d23_3_neg),
    (0b0011001100, .d24_3_pos), (0b1100110011, .d24_3_neg), (0b1001100011, .d25_3_pos),
    (0b1001101100, .d25_3_neg), (0b0101100011, .d26_3_pos), (0b0101101100, .d26_3_neg),
    (0b0010011100, .d27_3_pos), (0b1101100011, .d27_3_neg), (0b0011100011, .d28_3_pos),
    (0b0011101100, .d28_3_neg), (0b0100011100, .d29_3_pos), (0b1011100011, .d29_3_neg),
    (0b1000011100, .d30_3_pos), (0b0111100011, .d30_3_neg), (0b0101001100, .d31_3_pos),
    (0b1010110011, .d31_3_neg)]

theorem test_decode_words_d_y3 : ∀ p ∈ words_d_y3, decode p.1 = p.2 := by decide

/-- The data rows D.x.4: each word and the constructor it stands for. -/
def words_d_y4 : List (Codeword × Instr) :=
  [(0b0110001101, .d0_4_pos), (0b1001110010, .d0_4_neg), (0b1000101101, .d1_4_pos),
    (0b0111010010, .d1_4_neg), (0b0100101101, .d2_4_pos), (0b1011010010, .d2_4_neg),
    (0b1100010010, .d3_4_pos), (0b1100011101, .d3_4_neg), (0b0010101101, .d4_4_pos),
    (0b1101010010, .d4_4_neg), (0b1010010010, .d5_4_pos), (0b1010011101, .d5_4_neg),
    (0b0110010010, .d6_4_pos), (0b0110011101, .d6_4_neg), (0b0001110010, .d7_4_pos),
    (0b1110001101, .d7_4_neg), (0b0001101101, .d8_4_pos), (0b1110010010, .d8_4_neg),
    (0b1001010010, .d9_4_pos), (0b1001011101, .d9_4_neg), (0b0101010010, .d10_4_pos),
    (0b0101011101, .d10_4_neg), (0b1101000010, .d11_4_pos), (0b1101001101, .d11_4_neg),
    (0b0011010010, .d12_4_pos), (0b0011011101, .d12_4_neg), (0b1011000010, .d13_4_pos),
    (0b1011001101, .d13_4_neg), (0b0111000010, .d14_4_pos), (0b0111001101, .d14_4_neg),
    (0b1010001101, .d15_4_pos), (0b0101110010, .d15_4_neg), (0b1001001101, .d16_4_pos),
    (0b0110110010, .d16_4_neg), (0b1000110010, .d17_4_pos), (0b1000111101, .d17_4_neg),
    (0b0100110010, .d18_4_pos), (0b0100111101, .d18_4_neg), (0b1100100010, .d19_4_pos),
    (0b1100101101, .d19_4_neg), (0b0010110010, .d20_4_pos), (0b0010111101, .d20_4_neg),
    (0b1010100010, .d21_4_pos), (0b1010101101, .d21_4_neg), (0b0110100010, .d22_4_pos),
    (0b0110101101, .d22_4_neg), (0b0001011101, .d23_4_pos), (0b1110100010, .d23_4_neg),
    (0b0011001101, .d24_4_pos), (0b1100110010, .d24_4_neg), (0b1001100010, .d25_4_pos),
    (0b1001101101, .d25_4_neg), (0b0101100010, .d26_4_pos), (0b0101101101, .d26_4_neg),
    (0b0010011101, .d27_4_pos), (0b1101100010, .d27_4_neg), (0b0011100010, .d28_4_pos),
    (0b0011101101, .d28_4_neg), (0b0100011101, .d29_4_pos), (0b1011100010, .d29_4_neg),
    (0b1000011101, .d30_4_pos), (0b0111100010, .d30_4_neg), (0b0101001101, .d31_4_pos),
    (0b1010110010, .d31_4_neg)]

theorem test_decode_words_d_y4 : ∀ p ∈ words_d_y4, decode p.1 = p.2 := by decide

/-- The data rows D.x.5: each word and the constructor it stands for. -/
def words_d_y5 : List (Codeword × Instr) :=
  [(0b0110001010, .d0_5_pos), (0b1001111010, .d0_5_neg), (0b1000101010, .d1_5_pos),
    (0b0111011010, .d1_5_neg), (0b0100101010, .d2_5_pos), (0b1011011010, .d2_5_neg),
    (0b1100011010, .d3_5), (0b0010101010, .d4_5_pos), (0b1101011010, .d4_5_neg),
    (0b1010011010, .d5_5), (0b0110011010, .d6_5), (0b0001111010, .d7_5_pos),
    (0b1110001010, .d7_5_neg), (0b0001101010, .d8_5_pos), (0b1110011010, .d8_5_neg),
    (0b1001011010, .d9_5), (0b0101011010, .d10_5), (0b1101001010, .d11_5),
    (0b0011011010, .d12_5), (0b1011001010, .d13_5), (0b0111001010, .d14_5),
    (0b1010001010, .d15_5_pos), (0b0101111010, .d15_5_neg), (0b1001001010, .d16_5_pos),
    (0b0110111010, .d16_5_neg), (0b1000111010, .d17_5), (0b0100111010, .d18_5),
    (0b1100101010, .d19_5), (0b0010111010, .d20_5), (0b1010101010, .d21_5),
    (0b0110101010, .d22_5), (0b0001011010, .d23_5_pos), (0b1110101010, .d23_5_neg),
    (0b0011001010, .d24_5_pos), (0b1100111010, .d24_5_neg), (0b1001101010, .d25_5),
    (0b0101101010, .d26_5), (0b0010011010, .d27_5_pos), (0b1101101010, .d27_5_neg),
    (0b0011101010, .d28_5), (0b0100011010, .d29_5_pos), (0b1011101010, .d29_5_neg),
    (0b1000011010, .d30_5_pos), (0b0111101010, .d30_5_neg), (0b0101001010, .d31_5_pos),
    (0b1010111010, .d31_5_neg)]

theorem test_decode_words_d_y5 : ∀ p ∈ words_d_y5, decode p.1 = p.2 := by decide

/-- The data rows D.x.6: each word and the constructor it stands for. -/
def words_d_y6 : List (Codeword × Instr) :=
  [(0b0110000110, .d0_6_pos), (0b1001110110, .d0_6_neg), (0b1000100110, .d1_6_pos),
    (0b0111010110, .d1_6_neg), (0b0100100110, .d2_6_pos), (0b1011010110, .d2_6_neg),
    (0b1100010110, .d3_6), (0b0010100110, .d4_6_pos), (0b1101010110, .d4_6_neg),
    (0b1010010110, .d5_6), (0b0110010110, .d6_6), (0b0001110110, .d7_6_pos),
    (0b1110000110, .d7_6_neg), (0b0001100110, .d8_6_pos), (0b1110010110, .d8_6_neg),
    (0b1001010110, .d9_6), (0b0101010110, .d10_6), (0b1101000110, .d11_6),
    (0b0011010110, .d12_6), (0b1011000110, .d13_6), (0b0111000110, .d14_6),
    (0b1010000110, .d15_6_pos), (0b0101110110, .d15_6_neg), (0b1001000110, .d16_6_pos),
    (0b0110110110, .d16_6_neg), (0b1000110110, .d17_6), (0b0100110110, .d18_6),
    (0b1100100110, .d19_6), (0b0010110110, .d20_6), (0b1010100110, .d21_6),
    (0b0110100110, .d22_6), (0b0001010110, .d23_6_pos), (0b1110100110, .d23_6_neg),
    (0b0011000110, .d24_6_pos), (0b1100110110, .d24_6_neg), (0b1001100110, .d25_6),
    (0b0101100110, .d26_6), (0b0010010110, .d27_6_pos), (0b1101100110, .d27_6_neg),
    (0b0011100110, .d28_6), (0b0100010110, .d29_6_pos), (0b1011100110, .d29_6_neg),
    (0b1000010110, .d30_6_pos), (0b0111100110, .d30_6_neg), (0b0101000110, .d31_6_pos),
    (0b1010110110, .d31_6_neg)]

theorem test_decode_words_d_y6 : ∀ p ∈ words_d_y6, decode p.1 = p.2 := by decide

/-- The data rows D.x.7: each word and the constructor it stands for. -/
def words_d_y7 : List (Codeword × Instr) :=
  [(0b0110001110, .d0_7_pos), (0b1001110001, .d0_7_neg), (0b1000101110, .d1_7_pos),
    (0b0111010001, .d1_7_neg), (0b0100101110, .d2_7_pos), (0b1011010001, .d2_7_neg),
    (0b1100010001, .d3_7_pos), (0b1100011110, .d3_7_neg), (0b0010101110, .d4_7_pos),
    (0b1101010001, .d4_7_neg), (0b1010010001, .d5_7_pos), (0b1010011110, .d5_7_neg),
    (0b0110010001, .d6_7_pos), (0b0110011110, .d6_7_neg), (0b0001110001, .d7_7_pos),
    (0b1110001110, .d7_7_neg), (0b0001101110, .d8_7_pos), (0b1110010001, .d8_7_neg),
    (0b1001010001, .d9_7_pos), (0b1001011110, .d9_7_neg), (0b0101010001, .d10_7_pos),
    (0b0101011110, .d10_7_neg), (0b1101001000, .d11_7_pos), (0b1101001110, .d11_7_neg),
    (0b0011010001, .d12_7_pos), (0b0011011110, .d12_7_neg), (0b1011001000, .d13_7_pos),
    (0b1011001110, .d13_7_neg), (0b0111001000, .d14_7_pos), (0b0111001110, .d14_7_neg),
    (0b1010001110, .d15_7_pos), (0b0101110001, .d15_7_neg), (0b1001001110, .d16_7_pos),
    (0b0110110001, .d16_7_neg), (0b1000110001, .d17_7_pos), (0b1000110111, .d17_7_neg),
    (0b0100110001, .d18_7_pos), (0b0100110111, .d18_7_neg), (0b1100100001, .d19_7_pos),
    (0b1100101110, .d19_7_neg), (0b0010110001, .d20_7_pos), (0b0010110111, .d20_7_neg),
    (0b1010100001, .d21_7_pos), (0b1010101110, .d21_7_neg), (0b0110100001, .d22_7_pos),
    (0b0110101110, .d22_7_neg), (0b0001011110, .d23_7_pos), (0b1110100001, .d23_7_neg),
    (0b0011001110, .d24_7_pos), (0b1100110001, .d24_7_neg), (0b1001100001, .d25_7_pos),
    (0b1001101110, .d25_7_neg), (0b0101100001, .d26_7_pos), (0b0101101110, .d26_7_neg),
    (0b0010011110, .d27_7_pos), (0b1101100001, .d27_7_neg), (0b0011100001, .d28_7_pos),
    (0b0011101110, .d28_7_neg), (0b0100011110, .d29_7_pos), (0b1011100001, .d29_7_neg),
    (0b1000011110, .d30_7_pos), (0b0111100001, .d30_7_neg), (0b0101001110, .d31_7_pos),
    (0b1010110001, .d31_7_neg)]

theorem test_decode_words_d_y7 : ∀ p ∈ words_d_y7, decode p.1 = p.2 := by decide

/-- The 24 control rows: each word and the constructor it stands for. -/
def words_k : List (Codeword × Instr) :=
  [(0b1100001011, .k28_0_pos), (0b0011110100, .k28_0_neg), (0b1100000110, .k28_1_pos),
    (0b0011111001, .k28_1_neg), (0b1100001010, .k28_2_pos), (0b0011110101, .k28_2_neg),
    (0b1100001100, .k28_3_pos), (0b0011110011, .k28_3_neg), (0b1100001101, .k28_4_pos),
    (0b0011110010, .k28_4_neg), (0b1100000101, .k28_5_pos), (0b0011111010, .k28_5_neg),
    (0b1100001001, .k28_6_pos), (0b0011110110, .k28_6_neg), (0b0001010111, .k23_7_pos),
    (0b1110101000, .k23_7_neg), (0b0010010111, .k27_7_pos), (0b1101101000, .k27_7_neg),
    (0b1100000111, .k28_7_pos), (0b0011111000, .k28_7_neg), (0b0100010111, .k29_7_pos),
    (0b1011101000, .k29_7_neg), (0b1000010111, .k30_7_pos), (0b0111101000, .k30_7_neg)]

theorem test_decode_words_k : ∀ p ∈ words_k, decode p.1 = p.2 := by decide

/-- The default row's words (VT5): none of them is in the table. -/
theorem test_decode_invalid_words :
    ∀ w ∈ [0b0000000000, 0b1111111111, 0b0110001000, 0b1000111110, 0b1101000001],
      decode w = .invalid w := by decide

/-- A word of the table's numbering, and one with a bit above bit 9, which is no codeword. -/
theorem test_decode_table_word :
    decodeTableWord 16 0x0FA = some .k28_5_neg ∧ decodeTableWord 10 0x18B = some .d0_0_pos ∧
      decodeTableWord 16 0x000 = some (.invalid 0) ∧ decodeTableWord 16 0x4FA = none := by
  decide

/-! ### States for the tests -/

/-- The next state of a step that has one. -/
def after (o : Result) : State :=
  match o with
  | .next t => t
  | .fault _ => State.created
  | .refused _ => State.created

/-- The step has a next state. -/
def goesOn (o : Result) : Bool :=
  match o with
  | .next _ => true
  | .fault _ => false
  | .refused _ => false

theorem eq_next_of_goesOn {o : Result} (h : goesOn o = true) : o = .next (after o) := by
  cases o <;> simp_all [goesOn, after]

/-- A synchronized run whose window holds `w`, the bits centred at 2, 6, …, 38 (X12). -/
def full (w : Codeword) : State :=
  { State.reset with
    phase := .run, cur := 38, win := w, wlen := 10, sync := .synchronized
    idxq := [38, 34, 30, 26, 22, 18, 14, 10, 6, 2] }

/-- The record that the cycle on a K28.5 RD− leaves held in a run that suppresses idles. -/
def heldComma : SymbolRecord :=
  { value := 0xBC, isK := true, codeword := 0x0FA, dclass := .negative, valid := true, kind := .control
    violation := .none, rdAtDecode := .negative, spanStart := 0, spanEnd := 40 }

/-- `full` with suppression on, after the first cycle. -/
def idling (w : Codeword) (held : Option SymbolRecord) : State :=
  { full w with cfg := { State.reset.cfg with idleDrop := true }, first := false, pending := held }

/-- The channel `T = [10, 16, 19]` of VS2 to VS6 with the cursor at `c`. -/
def channelAt (c : SampleIdx) : State :=
  { State.reset with cur := c, chan := { level0 := false, transitions := [10, 16, 19] } }

/-- A hunting run whose next bit completes the window `w`. -/
def hunting (w : Codeword) : State :=
  { State.reset.withFetchWord 10 w.toNat with sync := .unsynchronized }

/-- A bit centre whose span's end is the last sample index. -/
def lastFit : State := { full 0x155 with idxq := (0xFFFFFFFFFFFFFFFD : SampleIdx) :: (full 0x155).idxq.tail }

/-- A bit centre one sample later: the span's end does not fit. -/
def firstMisfit : State :=
  { full 0x155 with idxq := (0xFFFFFFFFFFFFFFFE : SampleIdx) :: (full 0x155).idxq.tail }

/-- What the tests read off an emitted record. -/
structure View where
  value9 : Value9
  codeword : Codeword
  kind : SymbolKind
  dclass : DisparityClass
  violation : Violation
  start : Nat
  stop : Nat
deriving DecidableEq, Repr

/-- A record's view. -/
def view (r : SymbolRecord) : View :=
  ⟨Machine.value9 r.isK r.value, r.codeword, r.kind, r.dclass, r.violation, r.spanStart.toNat, r.spanEnd.toNat⟩

/-! ### One step against 95_test_vectors.md -/

/-- X6 symbol 1, VW3: the first decode cycle of a run. -/
theorem test_k28_5_neg :
    (after (exec .k28_5_neg (full 0x0FA))).out.map view = [⟨0x1BC, 0x0FA, .control, .negative, .none, 0, 40⟩] ∧
    (after (exec .k28_5_neg (full 0x0FA))).rd = .positive := by decide

/-- X6 symbol 2: D0.0 in the RD+ column leaves `RD` positive. -/
theorem test_d0_0_pos :
    let s := { full 0x18B with rd := .positive, first := false }
    (after (exec .d0_0_pos s)).out.map view = [⟨0x000, 0x18B, .data, .positive, .none, 0, 40⟩] ∧
    (after (exec .d0_0_pos s)).rd = .positive := by decide

/-- X6 symbol 3: D0.1 of the wrong column carries a violation. -/
theorem test_d0_1_neg :
    let s := { full 0x279 with rd := .positive, first := false }
    (after (exec .d0_1_neg s)).out.map view = [⟨0x020, 0x279, .data, .negative, .onesWhilePositive, 0, 40⟩] ∧
    (after (exec .d0_1_neg s)).rd = .positive := by decide

/-- P1 symbol 3: D0.1 of the right column. -/
theorem test_d0_1_pos :
    let s := { full 0x189 with rd := .positive, first := false }
    (after (exec .d0_1_pos s)).out.map view = [⟨0x020, 0x189, .data, .positive, .none, 0, 40⟩] ∧
    (after (exec .d0_1_pos s)).rd = .negative := by decide

/-- VR2: a balanced word of the wrong column is no violation. -/
theorem test_d0_0_neg :
    let s := { full 0x274 with rd := .positive, first := false }
    (after (exec .d0_0_neg s)).out.map view = [⟨0x000, 0x274, .data, .negative, .none, 0, 40⟩] ∧
    (after (exec .d0_0_neg s)).rd = .positive := by decide

/-- VR3: a miss with a violation. -/
theorem test_invalid_zeros :
    let s := { full 0x000 with first := false }
    (after (exec (.invalid 0) s)).out.map view = [⟨0x000, 0x000, .error, .neutral, .zerosWhileNegative, 0, 40⟩] ∧
    (after (exec (.invalid 0) s)).rd = .negative := by decide

/-- P5 symbol 2: a miss with more ones than zeros drives `RD` positive. -/
theorem test_invalid_ones :
    let s := { full 0x375 with first := false }
    (after (exec (.invalid 0x375) s)).out.map view = [⟨0x000, 0x375, .error, .neutral, .none, 0, 40⟩] ∧
    (after (exec (.invalid 0x375) s)).rd = .positive := by decide

/-- VT1: K23.7 in both columns. -/
theorem test_k23_7 :
    (after (exec .k23_7_neg (full 0x3A8))).out.map view =
      [⟨0x1F7, 0x3A8, .control, .negative, .none, 0, 40⟩] ∧
    (after (exec .k23_7_pos (full 0x057))).out.map view =
      [⟨0x1F7, 0x057, .control, .positive, .none, 0, 40⟩] := by decide

/-- VC2 line 1: K28.5 is held, then D10.2 drops both; D19.5 after the RD+ form does the same. -/
theorem test_idle_pair :
    (after (exec .k28_5_neg (idling 0x0FA none))).pending.map view =
      some ⟨0x1BC, 0x0FA, .control, .negative, .none, 0, 40⟩ ∧
    (after (exec .d10_2 (idling 0x155 (some heldComma)))).out = [] ∧
    (after (exec .d10_2 (idling 0x155 (some heldComma)))).pending = none := by decide

/-- VC2 line 8: D19.5 after a held K28.5. -/
theorem test_d19_5_after_comma :
    (after (exec .d19_5 (idling 0x32A (some heldComma)))).out = [] := by decide

/-- VC2 line 2: a second K28.5 emits the first and is held itself. -/
theorem test_comma_after_comma :
    let t := after (exec .k28_5_pos { idling 0x305 (some heldComma) with rd := .positive })
    t.out.map view = [⟨0x1BC, 0x0FA, .control, .negative, .none, 0, 40⟩] ∧
      t.pending.map view = some ⟨0x1BC, 0x305, .control, .positive, .none, 0, 40⟩ := by decide

/-- VC2 line 3: any other symbol emits the held K28.5 and follows it. -/
theorem test_data_after_comma :
    (after (exec .d0_0_pos (idling 0x18B (some heldComma)))).out.map (fun r => value9 r.isK r.value) =
      [0x1BC, 0x000] := by decide

/-- VC2 line 6: D10.2 with nothing held is emitted. -/
theorem test_idle_data_alone :
    (after (exec .d10_2 (idling 0x155 none))).out.map (fun r => value9 r.isK r.value) = [0x04A] := by
  decide

/-- VC2 line 7: an Error after a held K28.5. -/
theorem test_error_after_comma :
    (after (exec (.invalid 0) (idling 0x000 (some heldComma)))).out.map (·.kind) =
      [.control, .error] := by decide

/-- VR1, rows 0x0FA and 0x305, each cell `RD after, violation`. -/
theorem test_update_rd_unbalanced :
    [true, false].map (fun f => (rdAfter 0x0FA .negative, rdViolation 0x0FA .negative f)) =
      [(.positive, .none), (.positive, .none)] ∧
    [true, false].map (fun f => (rdAfter 0x0FA .positive, rdViolation 0x0FA .positive f)) =
      [(.positive, .none), (.positive, .onesWhilePositive)] ∧
    [true, false].map (fun f => (rdAfter 0x305 .negative, rdViolation 0x305 .negative f)) =
      [(.negative, .none), (.negative, .zerosWhileNegative)] ∧
    [true, false].map (fun f => (rdAfter 0x305 .positive, rdViolation 0x305 .positive f)) =
      [(.negative, .none), (.negative, .none)] := by decide

/-- VR1, rows 0x155, 0x3FF and 0x000 with `FIRST` clear. -/
theorem test_update_rd_balanced_and_misses :
    [Disparity.negative, .positive].map (fun d => (rdAfter 0x155 d, rdViolation 0x155 d false)) =
      [(.negative, .none), (.positive, .none)] ∧
    [Disparity.negative, .positive].map (fun d => (rdAfter 0x3FF d, rdViolation 0x3FF d false)) =
      [(.positive, .none), (.positive, .onesWhilePositive)] ∧
    [Disparity.negative, .positive].map (fun d => (rdAfter 0x000 d, rdViolation 0x000 d false)) =
      [(.negative, .zerosWhileNegative), (.negative, .none)] := by decide

/-- VC1. -/
theorem test_classify :
    classify false true = .error ∧ classify true true = .control ∧ classify true false = .data := by
  decide

/-- VT6, and a value the table does not hold. -/
theorem test_names :
    symbolName 0x1BC = some "K28.5" ∧ symbolName 0x04A = some "D10.2" ∧
      symbolName 0x0B3 = some "D19.5" ∧ symbolName 0x1F7 = some "K23.7" ∧ symbolName 0x100 = none := by
  decide +kernel

/-- VS1: `SPB`, `STC`, `OFS`, `HALF`. -/
theorem test_derived_constants :
    [(4, 1), (5, 1), (7, 1), (9, 2), (10, 1), (12, 1), (4000000, 1000000), (40000000, 10000000)].map
      (fun p => let t := deriveTiming { State.reset.cfg with sampleRate := p.1, bitRate := p.2 } .stcMinusSpb
        (t.spb.toNat, t.stc.toNat, t.ofs.toNat, t.half.toNat)) =
      [(4, 6, 2, 2), (5, 8, 3, 2), (7, 11, 4, 3), (4, 7, 3, 2), (10, 15, 5, 5), (12, 18, 6, 6),
        (4, 6, 2, 2), (4, 6, 2, 2)] := by decide

/-- R67's laws at the greatest legal sample rate: the number `STC` is `SPB + OFS` though it passes 64 bits. -/
theorem test_derived_constants_past_64_bits :
    let t := deriveTiming { State.reset.cfg with sampleRate := 0xFFFFFFFFFFFFFFFF, bitRate := 1 } .stc
    t.spb.toNat + t.ofs.toNat = t.stc.toNat + 2 ^ 64 ∧ t.stcOver = true ∧ t.ofs.toNat = 2 ^ 63 ∧
      icoNumber t = t.stc.toNat + 2 ^ 64 := by decide

/-- VC2 line 4, the lock: with suppression on, the locking comma is held like any other K28.5. -/
theorem test_lock_with_suppression :
    let t := after (step { hunting 0x0FA with cfg := { State.reset.cfg with idleDrop := true } })
    t.sync = .synchronized ∧ t.out = [] ∧
      t.pending.map view = some ⟨0x1BC, 0x0FA, .control, .negative, .none, 0, 40⟩ := by decide

/-- VS2. -/
theorem test_level :
    [0, 9, 10, 15, 16, 18, 19, 1000].map (levelAt (channelAt 0).chan) =
      [false, false, true, true, false, false, true, true] := by decide

/-- VS3. -/
theorem test_would_cross :
    [(12, 4), (12, 3), (16, 3), (16, 2), (19, 100)].map (fun p => chanWouldCross p.2 (channelAt p.1)) =
      [true, false, true, false, false] := by decide

/-- VS4. -/
theorem test_more : [0, 18, 19, 25].map (fun c => chanMore (channelAt c)) = [true, true, false, false] := by
  decide

/-- VS5. -/
theorem test_next_transition :
    [12, 10, 0, 19].map (fun c => nextTransition c (channelAt c).chan.transitions) =
      [some 16, some 16, some 10, none] ∧
    (chanToNextTransition (channelAt 19)).toOption = none := by decide

/-- VS6. -/
theorem test_advance :
    (chanAdvance 0 (channelAt 12)).toOption.map (·.cur) = some 12 ∧
    (chanAdvance 1 (channelAt 0xFFFFFFFFFFFFFFFE)).toOption.map (·.cur) = some 0xFFFFFFFFFFFFFFFF ∧
    chanAdvance 2 (channelAt 0xFFFFFFFFFFFFFFFE) =
      .error (.cursorOverflow 0xFFFFFFFFFFFFFFFE 2) := by
  refine ⟨by decide, by decide, rfl⟩

/-- VS7 item 1 and VS13 item 1: the first bit centre under both choices of `INITIAL_CENTER_OFFSET`. -/
theorem test_acquire :
    (after (step (channelAt 0))).cur = 12 ∧ (after (step (channelAt 0))).win = 1 ∧
    (after (step { channelAt 0 with tim := { State.reset.tim with ico := 6 } })).cur = 16 := by
  decide

/-- VS7 items 2 and 3: a free-running step, then a re-lock on 19, here from cursor 12 and 16 with
`T = [10, 19, 23]`. -/
theorem test_bit_steps :
    let s := { State.reset with
      phase := .run, chan := { level0 := false, transitions := [10, 19, 23] }, win := 1, wlen := 1 }
    (after (step { s with cur := 12 })).cur = 16 ∧ (after (step { s with cur := 12 })).win = 3 ∧
    (after (step { s with cur := 16 })).cur = 21 ∧ (after (step { s with cur := 16 })).win = 2 := by
  decide

/-- VW1. -/
theorem test_shift_in :
    (shiftIn false (full 0x07D)).win = 0x0FA ∧ (shiftIn false (full 0x07D)).wlen = 10 ∧
    (shiftIn true State.reset).win = 0x001 ∧ (shiftIn true State.reset).wlen = 1 ∧
    (shiftIn false { full 0x1FF with wlen := 9 }).win = 0x3FE := by decide

/-- VW2. -/
theorem test_queue_in : (queueIn 42 (full 0)).idxq = [42, 38, 34, 30, 26, 22, 18, 14, 10, 6] := by
  decide

/-- VW5: a near-comma does not lock. -/
theorem test_near_comma_does_not_lock :
    (after (step (hunting 0x0F9))).sync = .unsynchronized ∧ (after (step (hunting 0x0F9))).out = [] ∧
    (after (step (hunting 0x0F8))).sync = .unsynchronized := by decide

/-- VF1: both rates are recorded, and `PHASE` stays. -/
theorem test_start_illegal :
    let s := { State.created with host := [.start] }
    (after (step { s with cfg := { s.cfg with bitRate := 0, sampleRate := 4 } })).fault =
      some (.configIllegal 0 4) ∧
    (after (step { s with cfg := { s.cfg with bitRate := 1, sampleRate := 3 } })).fault =
      some (.configIllegal 1 3) ∧
    (after (step { s with cfg := { s.cfg with bitRate := 10000001, sampleRate := 40000004 } })).fault =
      some (.configIllegal 10000001 40000004) ∧
    (after (step { s with cfg := { s.cfg with bitRate := 1, sampleRate := 3 } })).phase = .idle := by
  decide

/-- VF2. -/
theorem test_start_legal :
    let s := { State.created with host := [.start] }
    let t := after (step { s with cfg := { s.cfg with bitRate := 10000000, sampleRate := 40000000 } })
    t.phase = .acquire ∧ t.tim.spb = 4 := by decide

/-- VF3: the step writes only `FAULT`. -/
theorem test_cursor_overflow :
    let s := { State.reset with
      cur := 0xFFFFFFFFFFFFFFFD, chan := { level0 := false, transitions := [0xFFFFFFFFFFFFFFFE] } }
    after (step s) = { s with fault := some (.cursorOverflow 0xFFFFFFFFFFFFFFFE 2) } := by
  decide

/-- VF5: END flushes a held K28.5 or drops it, as `FLUSH_PENDING_AT_END` says. -/
theorem test_stop_flushes :
    let s := { idling 0x000 (some heldComma) with host := [.stop] }
    (after (step s)).out = [heldComma] ∧ (after (step s)).phase = .done ∧
    (after (step { s with params := { s.params with flushPendingAtEnd := false } })).out = [] := by
  decide

/-- The fetch hook: the very next step from reset runs the word stored. -/
theorem test_fetch_word_runs :
    (after (step (State.reset.withFetchWord 10 0x155))).out.map (fun r => value9 r.isK r.value) = [0x04A] ∧
    (after (step (State.reset.withFetchWord 10 0x000))).out.map (·.kind) = [.error] := by
  decide

/-! ### Witnesses: for each statement with hypotheses, a state and operands that meet all of them -/

/-- `t` is the next transition, checked over the list. -/
theorem isNext {c t : SampleIdx} {l : List SampleIdx}
    (h : (decide (t ∈ l) && decide (c < t) && l.all fun u => !decide (c < u) || decide (t ≤ u)) = true) :
    IsNextTransition c l t := by
  simp only [Bool.and_eq_true, decide_eq_true_eq, List.all_eq_true, Bool.or_eq_true,
    Bool.not_eq_true', decide_eq_false_iff_not] at h
  exact ⟨h.1.1, h.1.2, fun u hu hc => (h.2 u hu).resolve_left (not_not.mpr hc)⟩

/-- No transition lies after the cursor, checked over the list. -/
theorem noneAfter {c : SampleIdx} {l : List SampleIdx} (h : (l.all fun t => decide (t ≤ c)) = true) :
    ∀ t ∈ l, t ≤ c := by
  simpa only [List.all_eq_true, decide_eq_true_eq] using h

theorem witness_decode_of_encode :
    Instr.d10_2.WellFormed ∧ Instr.k28_5_pos.WellFormed ∧ (Instr.invalid 0x3FF).WellFormed := by decide

theorem witness_ten_bits :
    Instr.d10_2.WellFormed ∧ ([] : List Bool).length ≠ 10 ∧ (List.replicate 9 true).length ≠ 10 ∧
      (List.replicate 11 true).length ≠ 10 := by decide

/-- The premise on `k`, `x` and `y` at a K28, at a K.7 and at a data symbol. -/
theorem witness_table_holds_every :
    ((true = true → (28 : BitVec 5) = 28 ∨ ((0 : BitVec 3) = 7 ∧ ((28 : BitVec 5) = 23 ∨
      (28 : BitVec 5) = 27 ∨ (28 : BitVec 5) = 29 ∨ (28 : BitVec 5) = 30)))) ∧
    ((true = true → (30 : BitVec 5) = 28 ∨ ((7 : BitVec 3) = 7 ∧ ((30 : BitVec 5) = 23 ∨
      (30 : BitVec 5) = 27 ∨ (30 : BitVec 5) = 29 ∨ (30 : BitVec 5) = 30)))) ∧
    ((false = true → (31 : BitVec 5) = 28 ∨ ((7 : BitVec 3) = 7 ∧ ((31 : BitVec 5) = 23 ∨
      (31 : BitVec 5) = 27 ∨ (31 : BitVec 5) = 29 ∨ (31 : BitVec 5) = 30)))) := by decide

theorem witness_table_holds_only :
    rom 0x0FA = .hit 0xBC true .negative ∧ rom 0x155 = .hit 0x4A false .neutral := by decide

theorem witness_lookup : rom 0x18B = .hit 0x00 false .positive ∧ rom 0x000 = .miss := by decide

/-- Also with the newest bit centre at the last value whose span fits. -/
theorem witness_data_codeword :
    Instr.d10_2.WellFormed ∧ rom (encode .d10_2) = .hit 0x4A false .neutral ∧
      (full 0x155).cfg.idleDrop = false ∧ CycleSpans (full 0x155) 38 2 ∧
      lastFit.cfg.idleDrop = false ∧ CycleSpans lastFit 0xFFFFFFFFFFFFFFFD 2 := by decide

/-- The two sides of the span's start: `HALF` equal to the oldest centre, and one more than it. -/
theorem witness_span_start :
    (full 0x155).tim.half ≤ (2 : SampleIdx) ∧ CycleSpans (full 0x155) 38 2 ∧
    let s := { full 0x155 with idxq := [37, 33, 29, 25, 21, 17, 13, 9, 5, 1] }
    ¬ s.tim.half ≤ (1 : SampleIdx) ∧ CycleSpans s 37 1 := by decide

theorem witness_control_codeword :
    Instr.k28_5_neg.WellFormed ∧ rom (encode .k28_5_neg) = .hit 0xBC true .negative ∧
      (full 0x0FA).cfg.idleDrop = false ∧ CycleSpans (full 0x0FA) 38 2 := by decide

theorem witness_invalid_codeword :
    (Instr.invalid 0x000).WellFormed ∧ (full 0x000).cfg.idleDrop = false ∧ CycleSpans (full 0x000) 38 2 := by
  decide

/-- Every codeword's row meets the premises on the row and on the state, with suppression off and on. -/
theorem witness_every_codeword (w : Codeword) :
    (decode w).WellFormed ∧ encode (decode w) = w ∧ CycleSpans (full w) 38 2 ∧
      CycleSpans (idling w none) 38 2 :=
  have hfit : (38 : SampleIdx).toNat + State.reset.tim.half.toNat < 2 ^ 64 := by decide
  ⟨decode_wellFormed w, encode_decode_word w, ⟨rfl, rfl, rfl, rfl, hfit⟩, rfl, rfl, rfl, rfl, hfit⟩

/-- The idle data symbol, another, and both with and without a held K28.5. -/
theorem witness_data_under_suppression :
    rom (encode .d10_2) = .hit 0x4A false .neutral ∧ rom (encode .d19_5) = .hit 0xB3 false .neutral ∧
      rom (encode .d0_0_pos) = .hit 0x00 false .positive ∧
      (idling 0x155 none).cfg.idleDrop = true ∧ CycleSpans (idling 0x155 none) 38 2 ∧
      CycleSpans (idling 0x18B (some heldComma)) 38 2 := by decide

theorem witness_control_under_suppression :
    rom (encode .k28_5_neg) = .hit 0xBC true .negative ∧ rom (encode .k28_1_neg) = .hit 0x3C true .negative ∧
      (idling 0x0FA none).cfg.idleDrop = true ∧ CycleSpans (idling 0x0FA none) 38 2 ∧
      CycleSpans (idling 0x0F9 (some heldComma)) 38 2 := by decide

theorem witness_invalid_under_suppression :
    (Instr.invalid 0x000).WellFormed ∧ (idling 0x000 (some heldComma)).cfg.idleDrop = true ∧
      CycleSpans (idling 0x000 (some heldComma)) 38 2 := by decide

/-- The first bit centre whose span does not fit. -/
theorem witness_span_past_the_last_index :
    firstMisfit.wlen = 10 ∧ firstMisfit.idxq.length = 10 ∧
      firstMisfit.idxq[0]? = some 0xFFFFFFFFFFFFFFFE ∧
      2 ^ 64 = (0xFFFFFFFFFFFFFFFE : SampleIdx).toNat + firstMisfit.tim.half.toNat := by decide

theorem witness_cycle_without_a_full_window :
    ({ full 0x155 with wlen := 9 } : State).wlen ≠ 10 ∧
      ({ full 0x155 with idxq := (full 0x155).idxq.tail } : State).idxq.length ≠ 10 := by decide

theorem witness_codeword_frame :
    Instr.d10_2.WellFormed ∧ exec .d10_2 (full 0x155) = .next (after (exec .d10_2 (full 0x155))) ∧
      (after (exec .d10_2 (full 0x155))).fault = (full 0x155).fault ∧ CycleReady (full 0x155) :=
  ⟨by decide, eq_next_of_goesOn (by decide), by decide, by decide⟩

/-- The second window's state included. -/
theorem witness_idle_pair :
    (idling 0x0FA none).cfg.idleDrop = true ∧ (idling 0x0FA none).pending = none ∧
      CycleReady (idling 0x0FA none) ∧
      CycleReady { after (exec .k28_5_neg (idling 0x0FA none)) with
        cur := 78, win := 0x155, wlen := 10, idxq := [78, 74, 70, 66, 62, 58, 54, 50, 46, 42] } := by
  decide

theorem witness_suppression_and_disparity :
    exec .d10_2 (full 0x155) = .next (after (exec .d10_2 (full 0x155))) ∧
      exec .d10_2 { full 0x155 with
          cfg := { (full 0x155).cfg with idleDrop := true }, pending := some heldComma } =
        .next (after (exec .d10_2 { full 0x155 with
          cfg := { (full 0x155).cfg with idleDrop := true }, pending := some heldComma })) :=
  ⟨eq_next_of_goesOn (by decide), eq_next_of_goesOn (by decide)⟩

/-- The counts nearest to 5 on either side, 5 itself, and both ends. -/
theorem witness_disparity_update_cases :
    ∀ p ∈ [(Instr.k28_5_neg, 6), (.k28_5_pos, 4), (.d10_2, 5), (.invalid 0x3FF, 10), (.invalid 0, 0)],
      p.1.WellFormed ∧ bitCount (encode p.1) = p.2 ∧ CycleReady (full (encode p.1)) ∧
        (full (encode p.1)).cfg.idleDrop = false ∧ CycleReady (idling (encode p.1) none) ∧
        (idling (encode p.1) none).cfg.idleDrop = true ∧ (idling (encode p.1) none).pending = none := by
  decide

theorem witness_disparity_depends_on_ones_counts :
    Instr.d0_1_neg.WellFormed ∧ Instr.k28_5_neg.WellFormed ∧
      (5 < bitCount (encode .d0_1_neg) ↔ 5 < bitCount (encode .k28_5_neg)) ∧
      (bitCount (encode .d0_1_neg) < 5 ↔ bitCount (encode .k28_5_neg) < 5) ∧
      (full 0x279).rd = (full 0x0FA).rd ∧ (full 0x279).first = (full 0x0FA).first ∧
      CycleReady (full 0x279) ∧ CycleReady (full 0x0FA) := by decide

theorem witness_first_window :
    Instr.d0_1_neg.WellFormed ∧ (full 0x279).first = true ∧ (full 0x279).pending = none ∧
      CycleReady (full 0x279) := by decide

/-- At the least index the second clause covers, at a transition, and at the greatest index. -/
theorem witness_level :
    (channelAt 0).chan.wf = true ∧ (1 : SampleIdx) ≠ 0 ∧ (10 : SampleIdx) ∈ (channelAt 0).chan.transitions ∧
      (0xFFFFFFFFFFFFFFFF : SampleIdx) ≠ 0 := by decide

/-- The greatest sum that fits, and the least that does not. -/
theorem witness_advance :
    (channelAt 0xFFFFFFFFFFFFFFFE).cur.toNat + 1 ≤ 2 ^ 64 - 1 ∧
      (channelAt 0xFFFFFFFFFFFFFFFE).cur.toNat + 2 > 2 ^ 64 - 1 := by decide

/-- The channel's last transition is after the cursor, or at it. -/
theorem witness_to_next_transition :
    IsNextTransition (channelAt 18).cur (channelAt 18).chan.transitions 19 ∧
      ∀ t ∈ (channelAt 19).chan.transitions, t ≤ (channelAt 19).cur :=
  ⟨isNext (by decide), noneAfter (by decide)⟩

/-- With an empty window, and with eight bits and a bit centre at the last index. -/
theorem witness_acquire :
    (CoreMoves (channelAt 0) ∧ (channelAt 0).phase = .acquire ∧
      IsNextTransition (channelAt 0).cur (channelAt 0).chan.transitions 10 ∧
      (channelAt 0).tim.icoOver = false ∧
      (12 : SampleIdx).toNat = (10 : SampleIdx).toNat + (channelAt 0).tim.ico.toNat ∧
      NoCycleAt (channelAt 0) 12) ∧
    let s := { channelAt 0 with
      wlen := 8, chan := { level0 := false, transitions := [0xFFFFFFFFFFFFFFFD] } }
    CoreMoves s ∧ s.phase = .acquire ∧
      IsNextTransition s.cur s.chan.transitions 0xFFFFFFFFFFFFFFFD ∧
      s.tim.icoOver = false ∧
      (0xFFFFFFFFFFFFFFFF : SampleIdx).toNat =
        (0xFFFFFFFFFFFFFFFD : SampleIdx).toNat + s.tim.ico.toNat ∧
      NoCycleAt s 0xFFFFFFFFFFFFFFFF :=
  ⟨⟨by decide, rfl, isNext (by decide), rfl, by decide, .inl (by decide)⟩,
    by decide, rfl, isNext (by decide), rfl, by decide, .inl (by decide)⟩

/-- A running core at `c` with eight bits and the channel's transitions at `ts`. -/
def running (c : SampleIdx) (ts : List SampleIdx) : State :=
  { State.reset with
    phase := .run, cur := c, wlen := 8, chan := { level0 := false, transitions := ts } }

/-- The next transition one sample past the bit period, and at the last index; and a hunting core whose
full window is no comma. -/
theorem witness_free_running_step :
    ∀ s ∈ [running 12 [10, 17], running 0xFFFFFFFFFFFFFFFA [0xFFFFFFFFFFFFFFFF], hunting 0x0F9],
      CoreMoves s ∧ s.phase = .run ∧ chanMore s = true ∧
        chanWouldCross s.tim.spb.toNat s = false ∧ NoCycleAt s (s.cur + s.tim.spb) := by
  decide

/-- The next transition at the end of the bit period, and at its first sample. -/
theorem witness_relock_step :
    (∀ p ∈ [(running 12 [10, 16, 19], (16 : SampleIdx), (18 : SampleIdx)), (running 12 [13, 19], 13, 15)],
      CoreMoves p.1 ∧ p.1.phase = .run ∧ NoCycleAt p.1 p.2.2 ∧
        p.2.1.toNat ≤ p.1.cur.toNat + p.1.tim.spb.toNat ∧
        p.2.2.toNat = p.2.1.toNat + p.1.tim.ofs.toNat) ∧
    IsNextTransition 12 [10, 16, 19] 16 ∧ IsNextTransition 12 [13, 19] 13 :=
  ⟨by decide, isNext (by decide), isNext (by decide)⟩

theorem witness_no_transition_left :
    CoreMoves (channelAt 19) ∧ (channelAt 19).phase = .acquire ∧
      CoreMoves (running 19 [10, 19]) ∧ (running 19 [10, 19]).phase = .run ∧
      (∀ t ∈ (channelAt 19).chan.transitions, t ≤ (channelAt 19).cur) ∧
      ∀ t ∈ (running 19 [10, 19]).chan.transitions, t ≤ (running 19 [10, 19]).cur :=
  ⟨by decide, rfl, by decide, rfl, noneAfter (by decide),
    noneAfter (by decide)⟩

/-- The least transition whose offset does not fit, in ACQUIRE and in a re-lock, and an `ICO` past 64
bits. -/
theorem witness_move_past_the_last_index :
    (let s := { channelAt 0 with chan := { level0 := false, transitions := [0xFFFFFFFFFFFFFFFE] } };
      CoreMoves s ∧ IsNextTransition s.cur s.chan.transitions 0xFFFFFFFFFFFFFFFE ∧ s.phase = .acquire ∧
        2 ^ 64 ≤ (0xFFFFFFFFFFFFFFFE : SampleIdx).toNat +
          (s.tim.ico.toNat + if s.tim.icoOver then 2 ^ 64 else 0)) ∧
    (let s := { channelAt 0 with tim := { State.reset.tim with icoOver := true } };
      CoreMoves s ∧ IsNextTransition s.cur s.chan.transitions 10 ∧ s.phase = .acquire ∧
        2 ^ 64 ≤ (10 : SampleIdx).toNat +
          (s.tim.ico.toNat + if s.tim.icoOver then 2 ^ 64 else 0)) ∧
    let s := running 0xFFFFFFFFFFFFFFFB [0xFFFFFFFFFFFFFFFE]
    CoreMoves s ∧ IsNextTransition s.cur s.chan.transitions 0xFFFFFFFFFFFFFFFE ∧ s.phase = .run ∧
      (0xFFFFFFFFFFFFFFFE : SampleIdx).toNat ≤ s.cur.toNat + s.tim.spb.toNat ∧
      2 ^ 64 ≤ (0xFFFFFFFFFFFFFFFE : SampleIdx).toNat + s.tim.ofs.toNat :=
  ⟨⟨by decide, isNext (by decide), rfl, by decide⟩, ⟨by decide, isNext (by decide), rfl, by decide⟩,
    by decide, isNext (by decide), rfl, by decide, by decide⟩

/-- Nine bits in the window and the tenth at 38, in a synchronized core and, the window a comma of either
form, in a hunting one with suppression on; and the sampler's other two ways to a bit. -/
theorem witness_completed_window :
    (let s := State.reset.withFetchWord 10 0x155;
      CoreMoves s ∧ SamplesAt s 38 ∧ 9 ≤ s.wlen ∧ s.sync = .synchronized) ∧
    (let s := { hunting 0x0FA with cfg := { State.reset.cfg with idleDrop := true } };
      CoreMoves s ∧ SamplesAt s 38 ∧ 9 ≤ s.wlen ∧ s.sync = .unsynchronized ∧
        (withBitAt s 38).win = 0x0FA) ∧
    (withBitAt (hunting 0x305) 38).win = 0x305 ∧
    SamplesAt (channelAt 0) 12 ∧ SamplesAt (running 12 [10, 16, 19]) 18 := by
  refine ⟨⟨by decide, .inr (.inl (by decide)), by decide, rfl⟩,
    ⟨by decide, .inr (.inl (by decide)), by decide, rfl, by decide⟩, by decide,
    .inl ⟨rfl, 10, isNext (by decide), by decide⟩,
    .inr (.inr ⟨rfl, by decide, 16, isNext (by decide), by decide⟩)⟩

theorem witness_ten_bits_fill : State.reset.wlen = 0 := rfl

/-- The state after a bit that no comma completes. -/
theorem witness_hunting :
    let s := hunting 0x0F9
    step s = .next (after (step s)) ∧ s.host = [] ∧ s.sync = .unsynchronized ∧
      (after (step s)).sync = .unsynchronized ∧ (after (step s)).phase = .run :=
  ⟨eq_next_of_goesOn (by decide), rfl, rfl, by decide, by decide⟩

/-- Both lock patterns. -/
theorem witness_only_a_comma :
    step (hunting 0x0FA) = .next (after (step (hunting 0x0FA))) ∧
      (hunting 0x0FA).sync = .unsynchronized ∧
      (after (step (hunting 0x0FA))).sync = .synchronized ∧
      (after (step (hunting 0x305))).sync = .synchronized :=
  ⟨eq_next_of_goesOn (by decide), rfl, by decide, by decide⟩

/-- Both lock patterns, with suppression off and on. -/
theorem witness_locking_comma :
    (let s := hunting 0x0FA;
      CoreMoves s ∧ SamplesAt s 38 ∧ s.sync = .unsynchronized ∧ 9 ≤ s.wlen ∧ s.idxq.length = s.wlen ∧
        s.first = true ∧ s.cfg.idleDrop = false ∧ (withBitAt s 38).win = 0x0FA ∧
        (38 : SampleIdx).toNat + s.tim.half.toNat < 2 ^ 64) ∧
    (let s := { hunting 0x305 with cfg := { State.reset.cfg with idleDrop := true } };
      CoreMoves s ∧ SamplesAt s 38 ∧ s.sync = .unsynchronized ∧ 9 ≤ s.wlen ∧ s.idxq.length = s.wlen ∧
        s.first = true ∧ s.cfg.idleDrop = true ∧ (withBitAt s 38).win = 0x305 ∧
        (38 : SampleIdx).toNat + s.tim.half.toNat < 2 ^ 64) :=
  ⟨⟨by decide, .inr (.inl (by decide)), by decide⟩, by decide, .inr (.inl (by decide)), by decide⟩

/-- A locked core with nine bits in its window, as a run leaves it. -/
def locked (w : Codeword) : State :=
  { State.reset.withFetchWord 10 w.toNat with
    first := false, cur := 35, idxq := [35, 31, 27, 23, 19, 15, 11, 7, 3] }

/-- The same, one bit earlier. -/
def lockedEarlier : State :=
  { locked 0x155 with cur := 31, win := 0x055, wlen := 8, idxq := [31, 27, 23, 19, 15, 11, 7, 3] }

theorem locked_windowInv : WindowInv (locked 0x155) :=
  ⟨by decide, by decide, by decide, by decide, by decide⟩

theorem lockedEarlier_windowInv : WindowInv lockedEarlier :=
  ⟨by decide, by decide, by decide, by decide, by decide⟩

/-- The tenth bit, and the ninth. -/
theorem witness_locked_cadence :
    (WindowInv (locked 0x155) ∧ WindowInv lockedEarlier) ∧
    ∀ s ∈ [locked 0x155, lockedEarlier],
      CoreMoves s ∧ s.sync = .synchronized ∧ step s = .next (after (step s)) ∧ s.phase = .run ∧
        (after (step s)).phase = .run ∧ (after (step s)).fault = none := by
  refine ⟨⟨locked_windowInv, lockedEarlier_windowInv⟩, fun s hs => ?_⟩
  have h : ∀ s ∈ [locked 0x155, lockedEarlier], CoreMoves s ∧ s.sync = .synchronized ∧
      goesOn (step s) = true ∧ s.phase = .run ∧ (after (step s)).phase = .run ∧
      (after (step s)).fault = none := by decide
  obtain ⟨a, b, c, d⟩ := h s hs
  exact ⟨a, b, eq_next_of_goesOn c, d⟩

/-- A synchronized core that steps on, and one that the host starts anew. -/
theorem witness_synchronization_never_reverts :
    step (locked 0x155) = .next (after (step (locked 0x155))) ∧ (locked 0x155).sync = .synchronized ∧
    let s := { locked 0x155 with phase := .done, host := [.start] }
    step s = .next (after (step s)) ∧ s.sync = .synchronized ∧
      (after (step s)).sync = .unsynchronized :=
  ⟨eq_next_of_goesOn (by decide), by decide, eq_next_of_goesOn (by decide),
    by decide, by decide⟩

/-- For the statements whose only hypothesis is a next state: a step of the core, and a START. -/
theorem witness_step_has_a_next_state :
    step (channelAt 0) = .next (after (step (channelAt 0))) ∧
    let s := { locked 0x155 with phase := .done, host := [.start] }
    step s = .next (after (step s)) ∧ s.host.head? = some .start ∧ atRest s = true :=
  ⟨eq_next_of_goesOn (by decide), eq_next_of_goesOn (by decide), by decide⟩

/-- A run's step, where the configuration and the waveform are held. -/
theorem witness_run_keeps_its_arguments :
    step (channelAt 0) = .next (after (step (channelAt 0))) ∧ atRest (channelAt 0) = false :=
  ⟨eq_next_of_goesOn (by decide), by decide⟩

theorem witness_faulted_machine :
    ({ State.reset with fault := some (.cursorOverflow 1 2) } : State).fault =
      some (.cursorOverflow 1 2) := rfl

/-- The two faults that can happen. -/
theorem witness_faulting_step :
    (let s := { channelAt 0 with chan := { level0 := false, transitions := [0xFFFFFFFFFFFFFFFE] } };
      step s = .next (after (step s)) ∧
        (after (step s)).fault = some (.cursorOverflow 0xFFFFFFFFFFFFFFFE 2)) ∧
    let s := { State.created with host := [.start] }
    step s = .next (after (step s)) ∧ (after (step s)).fault = some (.configIllegal 0 0) :=
  ⟨⟨eq_next_of_goesOn (by decide), by decide⟩,
    eq_next_of_goesOn (by decide), by decide⟩

/-- A created machine whose host has written the two rates and now moves. -/
def configured (bitRate : BitVec 32) (sampleRate : BitVec 64) (m : HostMove) : State :=
  { State.created with
    cfg := { State.created.cfg with bitRate := bitRate, sampleRate := sampleRate }, host := [m] }

/-- At both ends of the bit rate's range, the sample rate at its least. -/
theorem witness_start :
    ∀ s ∈ [configured 1 4 .start, configured 10000000 40000000 .start],
      s.fault = none ∧ s.host = [.start] ∧ atRest s = true ∧ 1 ≤ s.cfg.bitRate.toNat ∧
        s.cfg.bitRate.toNat ≤ 10000000 ∧ 4 * s.cfg.bitRate.toNat ≤ s.cfg.sampleRate.toNat := by
  decide

/-- Each of the three ways to be illegal, just past its bound. -/
theorem witness_start_refuses :
    ∀ s ∈ [configured 0 4 .start, configured 10000001 40000004 .start, configured 1 3 .start],
      s.fault = none ∧ s.host = [.start] ∧ atRest s = true ∧
        (s.cfg.bitRate.toNat = 0 ∨ 10000000 < s.cfg.bitRate.toNat ∨
          s.cfg.sampleRate.toNat < 4 * s.cfg.bitRate.toNat) := by decide

/-- The least legal configuration, the greatest sample rate, where the formula of `STC` passes 64 bits,
and the greatest bit rate. -/
theorem witness_derived_timing :
    (∀ s ∈ [configured 1 4 .start, configured 1 0xFFFFFFFFFFFFFFFF .start,
        configured 10000000 40000000 .start],
      1 ≤ s.cfg.bitRate.toNat ∧ s.cfg.bitRate.toNat ≤ 10000000 ∧
        4 * s.cfg.bitRate.toNat ≤ s.cfg.sampleRate.toNat) ∧
    2 ^ 64 ≤ (3 * 0xFFFFFFFFFFFFFFFF + 1) / (2 * 1) := by decide

theorem witness_stop :
    ∀ s ∈ [{ State.reset with host := [.stop] }, { locked 0x155 with host := [.stop] }],
      s.fault = none ∧ s.host = [.stop] ∧ (s.phase = .acquire ∨ s.phase = .run) := by decide

theorem witness_moves_not_enabled :
    ((configured 1 4 .stop).fault = none ∧ (configured 1 4 .stop).host = [.stop] ∧
      (configured 1 4 .stop).phase = .idle) ∧
    ({ State.reset with host := [.start] } : State).phase = .acquire ∧
    HostMove.start ≠ .stop ∧ HostMove.start ≠ .pass := by decide

theorem witness_host_writes :
    State.created.fault = none ∧ State.created.phase = .idle ∧ (channelAt 0).chan.wf = true ∧
      ({ State.reset with phase := .done } : State).phase = .done := by decide

theorem witness_resting_core :
    CoreMoves State.created ∧ State.created.phase = .idle ∧
      CoreMoves { State.reset with phase := .done } := by decide

theorem witness_window_invariant :
    WindowInv (locked 0x155) ∧ step (locked 0x155) = .next (after (step (locked 0x155))) :=
  ⟨locked_windowInv, eq_next_of_goesOn (by decide)⟩

/-- A run that holds a K28.5 and takes its next bit. -/
theorem witness_pending_invariant :
    let s := { locked 0x155 with
      cfg := { State.reset.cfg with idleDrop := true }, pending := some heldComma }
    PendingInv s ∧ step s = .next (after (step s)) :=
  ⟨⟨by intro p h; cases h; decide, by decide, by decide⟩,
    eq_next_of_goesOn (by decide)⟩

theorem locked_runInv : RunInv (locked 0x155) := by
  refine ⟨by decide, fun _ => by decide, by decide, by decide,
    fun _ => ⟨by decide, fun c hc => ?_⟩, by decide, by decide⟩
  have h : ((locked 0x155).idxq.all fun c => decide ((locked 0x155).tim.half < c) &&
      decide (c ≤ (locked 0x155).cur)) = true := by decide
  simpa using List.all_eq_true.mp h c hc

theorem witness_run_invariant :
    RunInv (locked 0x155) ∧ step (locked 0x155) = .next (after (step (locked 0x155))) :=
  ⟨locked_runInv, eq_next_of_goesOn (by decide)⟩

/-- A run with one record emitted. -/
theorem witness_output_invariant :
    let s := { locked 0x155 with out := [heldComma] }
    OutputInv s ∧ step s = .next (after (step s)) := by
  refine ⟨fun r hr => ?_, eq_next_of_goesOn (by decide)⟩
  obtain rfl : r = heldComma := by simpa [locked, State.withFetchWord, loadWindow, State.reset] using hr
  exact ⟨by decide, by decide, by decide, by decide⟩

theorem witness_unfaulted_machine : WindowInv (locked 0x155) ∧ (locked 0x155).fault = none :=
  ⟨locked_windowInv, rfl⟩

theorem witness_every_run_ends :
    WindowInv (locked 0x155) ∧ RunInv (locked 0x155) ∧ CoreMoves (locked 0x155) ∧
      atRest (locked 0x155) = false :=
  ⟨locked_windowInv, locked_runInv, by decide, by decide⟩

end Sys2Proof.Tests
end

section
/-! SUPPORT. The statements about the state: what a step keeps of it, the derived constants and their laws,
and the three invariants of the window, of `PENDING` and of the run. -/

namespace Sys2Proof.Machine

/-! ### The derived constants (R14, R67) -/

theorem configLegal_iff (c : CfgRegs) :
    configLegal c = true ↔
      1 ≤ c.bitRate.toNat ∧ c.bitRate.toNat ≤ 10000000 ∧
        4 * c.bitRate.toNat ≤ c.sampleRate.toNat := by
  simp [configLegal, and_assoc]

/-- Both laws of R67 on `STC` at once: it lies at least half a bit period, and less than a whole one,
past `SPB`. -/
theorem exactStc_bounds {sr br : Nat} (hb : 1 ≤ br) (hl : 4 * br ≤ sr) :
    4 ≤ sr / br ∧ sr / br + sr / br / 2 ≤ exactStc sr br ∧ exactStc sr br < 2 * (sr / br) := by
  have hq : 4 ≤ sr / br := (Nat.le_div_iff_mul_le hb).mpr hl
  have hdiv : br * (sr / br) + sr % br = sr := Nat.div_add_mod sr br
  have hmod : sr % br < br := Nat.mod_lt _ hb
  have hhalf : 2 * (sr / br / 2) ≤ sr / br := Nat.mul_div_le _ 2
  refine ⟨hq, (Nat.le_div_iff_mul_le (by omega)).mpr ?_, (Nat.div_lt_iff_lt_mul (by omega)).mpr ?_⟩
  · calc (sr / br + sr / br / 2) * (2 * br)
        = (2 * (sr / br) + 2 * (sr / br / 2)) * br := by ring
      _ ≤ (3 * (sr / br)) * br := Nat.mul_le_mul_right _ (by omega)
      _ = 3 * (br * (sr / br)) := by ring
      _ ≤ 3 * sr + br := by omega
  · calc 3 * sr + br < 3 * (br * (sr / br)) + br * 4 := by omega
      _ ≤ 3 * (br * (sr / br)) + br * (sr / br) := by
        have := Nat.mul_le_mul_left br hq
        omega
      _ = 2 * (sr / br) * (2 * br) := by ring

section LegalTiming

variable {c : CfgRegs} (p : CenterOffset)

theorem deriveTiming_spb :
    (deriveTiming c p).spb.toNat = c.sampleRate.toNat / c.bitRate.toNat :=
  Nat.mod_eq_of_lt (Nat.lt_of_le_of_lt (Nat.div_le_self _ _) c.sampleRate.isLt)

theorem deriveTiming_half :
    (deriveTiming c p).half.toNat = (deriveTiming c p).spb.toNat / 2 := by
  have hs := (deriveTiming c p).spb.isLt
  rw [deriveTiming_spb] at hs ⊢
  exact Nat.mod_eq_of_lt (by omega)

variable (h : configLegal c = true)
include h

/-- `exactStc_bounds` for a legal configuration. -/
theorem exactStc_bounds_of_legal :
    let spb := c.sampleRate.toNat / c.bitRate.toNat
    4 ≤ spb ∧ spb + spb / 2 ≤ exactStc c.sampleRate.toNat c.bitRate.toNat ∧
      exactStc c.sampleRate.toNat c.bitRate.toNat < 2 * spb :=
  have ⟨hb, _, hl⟩ := (configLegal_iff c).mp h
  exactStc_bounds hb hl

/-- The register `OFS` holds `STC − SPB` whole, whatever `STC` is. -/
theorem spb_add_ofs :
    (deriveTiming c p).spb.toNat + (deriveTiming c p).ofs.toNat =
      exactStc c.sampleRate.toNat c.bitRate.toNat := by
  obtain ⟨-, hlow, hhigh⟩ := exactStc_bounds_of_legal h
  have hs := (deriveTiming c p).spb.isLt
  rw [deriveTiming_spb] at hs ⊢
  have : (deriveTiming c p).ofs.toNat = exactStc c.sampleRate.toNat c.bitRate.toNat -
      c.sampleRate.toNat / c.bitRate.toNat := Nat.mod_eq_of_lt (by omega)
  omega

/-- The register `STC` and the bit beside it make the number (log entry 7). -/
theorem deriveTiming_stc :
    (deriveTiming c p).stc.toNat + (if (deriveTiming c p).stcOver then 2 ^ 64 else 0) =
      exactStc c.sampleRate.toNat c.bitRate.toNat := by
  obtain ⟨-, -, hhigh⟩ := exactStc_bounds_of_legal h
  have hs := (deriveTiming c p).spb.isLt
  rw [deriveTiming_spb] at hs
  simp only [deriveTiming, BitVec.toNat_ofNat, indexLimit, decide_eq_true_eq]
  split <;> omega

/-- The laws of R67 on `SPB` and `OFS`. -/
theorem deriveTiming_laws :
    4 ≤ (deriveTiming c p).spb.toNat ∧
      (deriveTiming c p).half.toNat ≤ (deriveTiming c p).ofs.toNat ∧
      (deriveTiming c p).ofs.toNat < (deriveTiming c p).spb.toNat := by
  obtain ⟨hspb, hlow, hhigh⟩ := exactStc_bounds_of_legal h
  have hsum := spb_add_ofs p h
  rw [deriveTiming_half]
  rw [deriveTiming_spb] at hsum ⊢
  omega

/-- The first bit centre lies at least half a bit period past the first transition, under either
`INITIAL_CENTER_OFFSET` (R14). -/
theorem half_le_icoNumber :
    (deriveTiming c p).half.toNat ≤ icoNumber (deriveTiming c p) := by
  obtain ⟨-, hofs, -⟩ := deriveTiming_laws p h
  cases p with
  | stcMinusSpb => exact Nat.le_trans hofs (Nat.le_add_right _ _)
  | stc =>
    have hico : icoNumber (deriveTiming c .stc) = exactStc c.sampleRate.toNat c.bitRate.toNat :=
      deriveTiming_stc .stc h
    have hsum := spb_add_ofs .stc h
    omega

end LegalTiming

/-- Settles O48: each law is read off the bounds on `STC`. -/
theorem derivedTimingObeysItsLaws : Obligations.DerivedTimingObeysItsLaws := by
  intro c p hb hmax hl
  have h := (configLegal_iff c).mpr ⟨hb, hmax, hl⟩
  obtain ⟨hspb, hhalf, hofs⟩ := deriveTiming_laws p h
  have hdef := deriveTiming_half (c := c) p
  have hsum := spb_add_ofs p h
  refine ⟨deriveTiming_spb p, deriveTiming_stc p h, decide_eq_true_iff, hsum, hdef, ?_, ?_, hspb,
    by omega, BitVec.lt_def.mpr hofs, BitVec.le_def.mpr hhalf, ?_⟩
  · rintro rfl; exact ⟨rfl, rfl⟩
  · rintro rfl; exact ⟨rfl, rfl⟩
  · show _ < exactStc _ _
    omega

/-! ### Single steps of the host -/

/-- Settles O42: `fetch` reads `FAULT` before anything else. -/
theorem faultedMachineTakesNoStep : Obligations.FaultedMachineTakesNoStep := by
  intro s f hf
  simp [step, fetch, hf]

/-- At a step boundary of an unfaulted machine the host's next move is the step. -/
theorem step_of_host_cons {s : State} {m : HostMove} {ms : List HostMove} (hf : s.fault = none)
    (hh : s.host = m :: ms) : step s = settle (hostFetch m { s with host := ms }) := by
  rw [step_eq_settle, fetch, hf, hh]

theorem atRest_iff (s : State) : atRest s = true ↔ s.phase = .idle ∨ s.phase = .done := by
  simp [atRest]

/-- Settles O47: the three disjuncts are what `configLegal` refuses. -/
theorem startRefusesAnIllegalConfiguration : Obligations.StartRefusesAnIllegalConfiguration := by
  intro s ms hf hh hr hbad
  have hc : configLegal s.cfg = false := by
    rw [← Bool.not_eq_true, configLegal_iff]
    omega
  have hr' : atRest { s with host := ms } = true := hr
  simp [step_of_host_cons hf hh, hostFetch, start, hr', hc, settle, raise, setFault]

/-- A configuration write at rest is the step, and writes the configuration alone. -/
theorem settle_configure {s : State} (hr : atRest s = true) (c : CfgRegs) :
    settle (.settled (configure c s)) = .next { s with cfg := c } := by
  simp [settle, configure, hr]

/-- Settles O51: each move is a step of its own at rest. -/
theorem hostWritesTheConfiguration : Obligations.HostWritesTheConfiguration := by
  intro s ms hf hp
  have hr : atRest { s with host := ms } = true := (atRest_iff _).mpr hp
  have hstep (m : HostMove) :
      step { s with host := m :: ms } = settle (hostFetch m { s with host := ms }) :=
    step_of_host_cons hf rfl
  refine ⟨fun v => ?_, fun v => ?_, fun v => ?_, fun v => ?_, fun c hc => ?_⟩
  case _ | _ | _ | _ => rw [hstep]; exact settle_configure hr _
  · simp [hstep, hostFetch, bindWaveform, hr, hc, settle]

/-! ### What a bit step and END keep -/

/-- `deliver` only appends to `OUT`, at most two records (R116, R160). -/
theorem deliver_out_appended (r : SymbolRecord) (s : State) :
    s.out <+: (deliver r s).out ∧ (deliver r s).out.length ≤ s.out.length + 2 := by
  have hheld : s.pending.toList.length ≤ 1 := by cases s.pending <;> simp
  obtain ⟨-, h⟩ | ⟨-, -, -, h⟩ | ⟨-, -, -, h⟩ | ⟨-, -, -, h⟩ := deliver_cases r s
  · simp [h]
  · simp [h]
  · exact ⟨by simp [h], by rw [h, List.length_append]; omega⟩
  · refine ⟨by simp [h], ?_⟩
    rw [h, List.length_append, List.length_append, List.length_singleton]
    omega

/-- `deliver` emits and holds nothing but the new record and what was emitted or held before. -/
theorem mem_of_mem_deliver {r x : SymbolRecord} {s : State}
    (hx : x ∈ (deliver r s).out ++ (deliver r s).pending.toList) :
    x = r ∨ x ∈ s.out ++ s.pending.toList := by
  obtain ⟨-, h⟩ | ⟨-, -, -, h⟩ | ⟨-, -, -, h⟩ | ⟨-, -, -, h⟩ := deliver_cases r s
  all_goals
    simp [h] at hx ⊢
    tauto

theorem endRun_out_appended (s : State) :
    s.out <+: (endRun s).out ∧ (endRun s).out.length ≤ s.out.length + 2 := by
  have hheld : s.pending.toList.length ≤ 1 := by cases s.pending <;> simp
  rw [endRun_out]
  split
  · exact ⟨by simp, by rw [List.length_append]; omega⟩
  · simp

/-- END emits nothing but what was held. -/
theorem mem_of_mem_endRun {x : SymbolRecord} {s : State}
    (hx : x ∈ (endRun s).out ++ (endRun s).pending.toList) : x ∈ s.out ++ s.pending.toList := by
  rw [endRun_out, endRun_pending] at hx
  split at hx
  · simpa using hx
  · exact List.mem_append_left _ (by simpa using hx)

theorem cycleDue_iff (s : State) :
    cycleDue s = true ↔ s.wlen = 10 ∧ s.sync = .synchronized := by
  simp [cycleDue]

theorem pushBit_sync_of_synchronized {s : State} (h : s.sync = .synchronized) :
    (pushBit s).sync = .synchronized := by
  simp [pushBit_sync, h]

/-- A bit that brings about no decode cycle does not change `SYNC`: a bit that locks does (R82, R83). -/
theorem pushBit_sync_of_no_cycle {s : State} (h : cycleDue (pushBit s) = false) :
    (pushBit s).sync = s.sync := by
  rw [pushBit_sync]
  split
  next hlock =>
    have hsync : (pushBit s).sync = .synchronized := by rw [pushBit_sync, if_pos hlock]
    obtain ⟨-, hlen, -⟩ := hlock
    exact absurd ((cycleDue_iff _).mpr ⟨hlen, hsync⟩) (by simp [h])
  next => rfl

namespace BitOutcome

variable {s t : State} (h : BitOutcome s t)
include h

theorem keeps_arguments :
    t.params = s.params ∧ t.cfg = s.cfg ∧ t.tim = s.tim ∧ t.chan = s.chan := by
  cases h with
  | fault b n ht => simp [ht]
  | pushed c hc hd ht => simp [ht]
  | cycled c hc u hu hd hw hf ht => simp [ht, hu]

theorem cur_le : s.cur ≤ t.cur := by
  cases h with
  | fault b n ht => simp [ht]
  | pushed c hc hd ht => simpa [ht] using hc
  | cycled c hc u hu hd hw hf ht => simpa [ht, hu] using hc

theorem keeps_sync (hs : s.sync = .synchronized) : t.sync = .synchronized := by
  cases h with
  | fault b n ht => simpa [ht] using hs
  | pushed c hc hd ht => rw [ht]; exact pushBit_sync_of_synchronized hs
  | cycled c hc u hu hd hw hf ht =>
    rw [ht, deliver_sync, afterWindow_sync, hu]
    exact pushBit_sync_of_synchronized hs

theorem out_appended : s.out <+: t.out ∧ t.out.length ≤ s.out.length + 2 := by
  cases h with
  | fault b n ht => simp [ht]
  | pushed c hc hd ht => simp [ht]
  | cycled c hc u hu hd hw hf ht =>
    have := deliver_out_appended (cycleRecord u.win (rom u.win) u) (afterWindow u.win u)
    simpa [ht, hu] using this

end BitOutcome

/-- Settles O39: a run's bits can only lock, and the other moves leave `SYNC` alone. -/
theorem synchronizationNeverReverts : Obligations.SynchronizationNeverReverts := by
  intro s t h hs
  obtain ⟨-, hstep⟩ := stepped_of_step h
  cases hstep with
  | stayed ht => exact .inl (by simpa [ht] using hs)
  | ended hp ht => exact .inl (by simpa [ht] using hs)
  | bit hp hb => exact .inl (hb.keeps_sync hs)
  | configured c hp ht => exact .inl (by simpa [ht] using hs)
  | bound c hp hc ht => exact .inl (by simpa [ht] using hs)
  | started hm hp hc ht => exact .inr ⟨hm, hp⟩
  | startRefused hm hp hc ht => exact .inr ⟨hm, hp⟩

/-- Settles O40: the sampler moves the cursor forward, and only START sets it anew. -/
theorem cursorNeverMovesBack : Obligations.CursorNeverMovesBack := by
  intro s t h
  obtain ⟨-, hstep⟩ := stepped_of_step h
  cases hstep with
  | stayed ht => exact .inl (by simp [ht])
  | ended hp ht => exact .inl (by simp [ht])
  | bit hp hb => exact .inl hb.cur_le
  | configured c hp ht => exact .inl (by simp [ht])
  | bound c hp hc ht => exact .inl (by simp [ht])
  | started hm hp hc ht => exact .inr ⟨hm, hp⟩
  | startRefused hm hp hc ht => exact .inr ⟨hm, hp⟩

/-- Settles O41: a decode cycle and END append, START empties, nothing else writes `OUT`. -/
theorem outputIsOnlyAppendedTo : Obligations.OutputIsOnlyAppendedTo := by
  intro s t h
  obtain ⟨-, hstep⟩ := stepped_of_step h
  cases hstep with
  | stayed ht => exact .inl (by simp [ht])
  | ended hp ht => subst ht; exact .inl (endRun_out_appended { s with host := s.host.tail })
  | bit hp hb => exact .inl hb.out_appended
  | configured c hp ht => exact .inl (by simp [ht])
  | bound c hp hc ht => exact .inl (by simp [ht])
  | started hm hp hc ht => exact .inr ⟨hm, hp, by simp [ht]⟩
  | startRefused hm hp hc ht => exact .inl (by simp [ht])

/-- Settles O45: what writes the configuration, the constants or the waveform needs a core at rest. -/
theorem runKeepsItsArguments : Obligations.RunKeepsItsArguments := by
  intro s t h
  obtain ⟨-, hstep⟩ := stepped_of_step h
  cases hstep with
  | stayed ht => simp [ht]
  | ended hp ht => simp [ht]
  | bit hp hb => exact ⟨hb.keeps_arguments.1, fun _ => hb.keeps_arguments.2⟩
  | configured c hp ht => simp [ht, hp]
  | bound c hp hc ht => simp [ht, hp]
  | started hm hp hc ht => simp [ht, hp]
  | startRefused hm hp hc ht => simp [ht]

/-! ### The invariant of the window (R17, R18, R21, R84) -/

/-- Shifting a bit into a window of `n` bits leaves one of `n + 1`, at most ten. -/
theorem shiftIn_highBits {w : Codeword} {n : Nat} (b : Bool) (hn : n ≤ 10) (hw : w.toNat < 2 ^ n) :
    ((w <<< 1) ||| (BitVec.ofBool b).setWidth 10).toNat < 2 ^ min (n + 1) 10 := by
  obtain rfl | hn := Nat.eq_or_lt_of_le hn
  · exact BitVec.isLt _
  · rw [Nat.min_eq_left hn, BitVec.toNat_or]
    refine Nat.or_lt_two_pow ?_ ?_
    · have : (w <<< 1).toNat ≤ w.toNat * 2 := by
        rw [BitVec.toNat_shiftLeft, Nat.shiftLeft_eq]
        exact Nat.mod_le _ _
      rw [Nat.pow_succ]
      omega
    · have : ((BitVec.ofBool b).setWidth 10).toNat < 2 := by cases b <;> decide
      have : 2 ^ 1 ≤ 2 ^ (n + 1) := Nat.pow_le_pow_right (by omega) (by omega)
      omega

namespace WindowInv

/-- The invariant reads the window, its queue, `SYNC` and `FIRST` alone. -/
theorem of_same {s t : State} (h : WindowInv s) (hwin : t.win = s.win) (hwlen : t.wlen = s.wlen)
    (hidxq : t.idxq = s.idxq) (hsync : t.sync = s.sync) (hfirst : t.first = s.first) :
    WindowInv t where
  length := hwlen ▸ h.length
  queue := by rw [hidxq, hwlen]; exact h.queue
  highBits := by rw [hwin, hwlen]; exact h.highBits
  consumed := by rw [hsync, hwlen]; exact h.consumed
  first := by rw [hfirst, hsync]; exact h.first

/-- An empty window meets the invariant wherever `FIRST` and `SYNC` agree (R85, R150). -/
theorem of_empty {s : State} (hwin : s.win = 0) (hwlen : s.wlen = 0) (hidxq : s.idxq = [])
    (hfirst : s.first = true ↔ s.sync = .unsynchronized) : WindowInv s where
  length := by omega
  queue := by simp [hidxq, hwlen]
  highBits := by simp [hwin, hwlen]
  consumed := by omega
  first := hfirst

/-- A bit that brings about no decode cycle keeps the invariant (R82). -/
theorem after_pushBit {s : State} (h : WindowInv s) (hd : cycleDue (pushBit s) = false) :
    WindowInv (pushBit s) where
  length := by simp
  queue := by
    rw [pushBit_idxq, pushBit_wlen, List.length_take, List.length_cons, h.queue, Nat.min_comm]
  highBits := by
    rw [pushBit_win, pushBit_wlen]
    exact shiftIn_highBits _ h.length h.highBits
  consumed hs := by
    have hlen : (pushBit s).wlen ≤ 10 := by simp
    have hne : (pushBit s).wlen ≠ 10 := fun hfull =>
      absurd ((cycleDue_iff _).mpr ⟨hfull, hs⟩) (by simp [hd])
    omega
  first := by rw [pushBit_first, pushBit_sync_of_no_cycle hd]; exact h.first

theorem after_bitOutcome {s t : State} (h : WindowInv s) (hb : BitOutcome s t) : WindowInv t := by
  cases hb with
  | fault b n ht => subst ht; exact h.of_same rfl rfl rfl rfl rfl
  | pushed c hc hd ht =>
    subst ht
    have h1 : WindowInv { s with cur := c, phase := .run } := h.of_same rfl rfl rfl rfl rfl
    exact h1.after_pushBit hd
  | cycled c hc u hu hd hw hf ht =>
    have hsync : u.sync = .synchronized := ((cycleDue_iff u).mp hd).2
    subst ht
    exact of_empty (by simp) (by simp) (by simp) (by simp [hsync])

end WindowInv

/-- Settles O55: the moves other than a bit and START do not touch the window. -/
theorem stepKeepsTheWindowInvariant : Obligations.StepKeepsTheWindowInvariant := by
  intro s t h hs
  have h' : WindowInv { s with host := s.host.tail } := h.of_same rfl rfl rfl rfl rfl
  obtain ⟨-, hstep⟩ := stepped_of_step hs
  cases hstep with
  | stayed ht => exact ht ▸ h'
  | ended hp ht => subst ht; exact h'.of_same (by simp) (by simp) (by simp) (by simp) (by simp)
  | bit hp hb => exact h'.after_bitOutcome hb
  | configured c hp ht => subst ht; exact h.of_same rfl rfl rfl rfl rfl
  | bound c hp hc ht => subst ht; exact h.of_same rfl rfl rfl rfl rfl
  | started hm hp hc ht => subst ht; exact .of_empty rfl rfl rfl (by simp)
  | startRefused hm hp hc ht => subst ht; exact h.of_same rfl rfl rfl rfl rfl

/-! ### The invariant of `PENDING` (R22, R114, R124) -/

namespace PendingInv

/-- Nothing held meets the invariant. -/
theorem of_none {s : State} (h : s.pending = none) : PendingInv s :=
  ⟨by simp [h], fun _ => h, fun _ => h⟩

/-- `deliver` holds nothing, what was held, or a K28.5 under suppression (R114). -/
theorem after_deliver {s : State} (h : PendingInv s) (r : SymbolRecord)
    (hr : Machine.atRest s = false) : PendingInv (deliver r s) := by
  obtain ⟨-, e⟩ | ⟨-, -, -, e⟩ | ⟨hon, -, hcomma, e⟩ | ⟨-, -, -, e⟩ := deliver_cases r s <;> rw [e]
  · exact ⟨h.comma, h.suppressing, h.atRest⟩
  · exact of_none rfl
  · exact ⟨by simpa using hcomma, by simp [hon],
      fun hrest => absurd (hr.symm.trans hrest) (by simp)⟩
  · exact of_none rfl

/-- Within a run the invariant reads `CFG_IDLE_DROP` and `PENDING` alone. -/
theorem of_same_running {s t : State} (h : PendingInv s) (hcfg : t.cfg = s.cfg)
    (hpending : t.pending = s.pending) (hphase : t.phase = .run) : PendingInv t where
  comma := by rw [hpending]; exact h.comma
  suppressing := by rw [hpending, hcfg]; exact h.suppressing
  atRest := by simp [Machine.atRest, hphase]

theorem after_bitOutcome {s t : State} (h : PendingInv s) (hb : BitOutcome s t) : PendingInv t := by
  cases hb with
  | fault b n ht => subst ht; exact ⟨h.comma, h.suppressing, h.atRest⟩
  | pushed c hc hd ht => subst ht; exact h.of_same_running (by simp) (by simp) (by simp)
  | cycled c hc u hu hd hw hf ht =>
    have hcleared : PendingInv (afterWindow u.win u) :=
      h.of_same_running (by simp [hu]) (by simp [hu]) (by simp [hu])
    exact ht ▸ hcleared.after_deliver _ (by simp [Machine.atRest, hu])

end PendingInv

/-- Settles O56: a run holds only what `deliver` holds, and at rest nothing is held. -/
theorem stepKeepsThePendingInvariant : Obligations.StepKeepsThePendingInvariant := by
  intro s t h hs
  obtain ⟨-, hstep⟩ := stepped_of_step hs
  cases hstep with
  | stayed ht => subst ht; exact ⟨h.comma, h.suppressing, h.atRest⟩
  | ended hp ht => subst ht; exact .of_none (by simp)
  | bit hp hb =>
    have h' : PendingInv { s with host := s.host.tail } := ⟨h.comma, h.suppressing, h.atRest⟩
    exact h'.after_bitOutcome hb
  | configured c hp ht => subst ht; exact .of_none (h.atRest hp)
  | bound c hp hc ht => subst ht; exact .of_none (h.atRest hp)
  | started hm hp hc ht => subst ht; exact .of_none rfl
  | startRefused hm hp hc ht => subst ht; exact .of_none (h.atRest hp)

/-! ### The invariant of the run (R14, R40, R72, R86) -/

/-- `c` may be the next bit centre after those in the index queue: each lies more than half a bit into
the capture, and `c` after all of them (R72, R86). -/
def NextCentre (s : State) (c : SampleIdx) : Prop :=
  s.tim.half < c ∧ ∀ x ∈ s.idxq, s.tim.half < x ∧ x < c

/-- A cursor's move that fits in 64 bits adds without wrapping (R62). -/
theorem toNat_advance {b : SampleIdx} {n : Nat} (h : b.toNat + n < indexLimit) :
    (b + BitVec.ofNat 64 n).toNat = b.toNat + n := by
  rw [BitVec.toNat_add, BitVec.toNat_ofNat, Nat.add_mod_mod]
  exact Nat.mod_eq_of_lt h

namespace RunInv

theorem after_setFault {s : State} (h : RunInv s) (f : ModelFault) : RunInv (setFault f s) :=
  ⟨h.legal, h.constants, h.waveform, h.acquiring, h.beyondHalf, h.ordered, h.spans⟩

/-- In Run any index after the cursor may be the next bit centre. -/
theorem nextCentre_of_cur_lt {s : State} (h : RunInv s) (hp : s.phase = .run) {c : SampleIdx}
    (hc : s.cur < c) : NextCentre s c := by
  obtain ⟨hcur, hq⟩ := h.beyondHalf hp
  refine ⟨BitVec.lt_trans hcur hc, fun x hx => ?_⟩
  obtain ⟨hhalf, hle⟩ := hq x hx
  exact ⟨hhalf, by bv_omega⟩

/-- In Acquire any index more than half a bit in may be the first bit centre. -/
theorem nextCentre_of_acquire {s : State} (h : RunInv s) (hp : s.phase = .acquire) {c : SampleIdx}
    (hc : s.tim.half < c) : NextCentre s c :=
  ⟨hc, by simp [h.acquiring hp]⟩

/-- A bit sampled at a next centre keeps the invariant. -/
theorem after_pushBit {s : State} (h : RunInv s) (hr : atRest s = false) {c : SampleIdx}
    (hc : NextCentre s c) : RunInv (pushBit { s with cur := c, phase := .run }) where
  legal _ := by simpa using h.legal hr
  constants _ := by simpa using h.constants hr
  waveform := by simpa using h.waveform
  acquiring := by simp
  beyondHalf _ := by
    obtain ⟨hhalf, hq⟩ := hc
    refine ⟨by simpa using hhalf, fun x hx => ?_⟩
    rw [pushBit_idxq] at hx
    rw [pushBit_tim, pushBit_cur]
    obtain rfl | hx := List.mem_cons.mp (List.mem_of_mem_take hx)
    · exact ⟨hhalf, BitVec.le_refl _⟩
    · exact ⟨(hq x hx).1, BitVec.le_of_lt (hq x hx).2⟩
  ordered := by
    rw [pushBit_idxq]
    exact (List.pairwise_cons.mpr ⟨fun x hx => (hc.2 x hx).2, h.ordered⟩).take
  spans := by simpa using h.spans

/-- The span of a decode cycle starts before it ends: the oldest bit centre lies more than half a bit into
the capture and before the newest, and the end does not wrap (R86). -/
theorem spanStart_lt_spanEnd {u : State} (h : RunInv u) (hp : u.phase = .run)
    (hw : windowFull u = true) (hf : spanFits (centre u 0) u.tim.half = true)
    (w : Codeword) (e : RomEntry) :
    (cycleRecord w e u).spanStart < (cycleRecord w e u).spanEnd := by
  obtain ⟨-, hlen⟩ : u.wlen = 10 ∧ u.idxq.length = 10 := by simpa [windowFull] using hw
  have hnewest : centre u 0 = u.idxq[0] := by simp [centre, hlen]
  have holdest : centre u 9 = u.idxq[9] := by simp [centre, hlen]
  have hlt : centre u 9 < centre u 0 := by
    rw [hnewest, holdest]
    exact List.pairwise_iff_getElem.mp h.ordered 0 9 _ _ (by omega)
  have hhalf : u.tim.half < centre u 9 := by
    rw [holdest]
    exact ((h.beyondHalf hp).2 _ (List.getElem_mem _)).1
  have hfit : (centre u 0).toNat + u.tim.half.toNat < 2 ^ 64 := by
    simpa [spanFits, indexLimit] using hf
  show spanFirst (centre u 9) u.tim.half < spanLast (centre u 0) u.tim.half
  rw [spanFirst, if_pos (BitVec.le_of_lt hhalf), spanLast]
  bv_omega

/-- A decode cycle keeps the invariant: it empties the index queue and adds one sound span. -/
theorem after_decodeCycle {u : State} (h : RunInv u) (hp : u.phase = .run)
    (hw : windowFull u = true) (hf : spanFits (centre u 0) u.tim.half = true)
    (w : Codeword) (e : RomEntry) :
    RunInv (deliver (cycleRecord w e u) (afterWindow w u)) where
  legal _ := by simpa using h.legal (by simp [atRest, hp])
  constants _ := by simpa using h.constants (by simp [atRest, hp])
  waveform := by simpa using h.waveform
  acquiring := by simp
  beyondHalf _ := by simpa using (h.beyondHalf hp).1
  ordered := by simp
  spans r hr := by
    obtain rfl | hr := mem_of_mem_deliver hr
    · exact h.spanStart_lt_spanEnd hp hw hf w e
    · exact h.spans r hr

/-- A bit step whose move ends at a next centre keeps the invariant. -/
theorem after_bitStepped {s t : State} {base : SampleIdx} {n : Nat} (h : RunInv s)
    (hr : atRest s = false) (hb : BitStepped s base n t)
    (hc : base.toNat + n < indexLimit → NextCentre s (base + BitVec.ofNat 64 n)) : RunInv t := by
  cases hb with
  | moveOverflow hge ht => exact ht ▸ h.after_setFault _
  | hunted s1 hlt hs1 hd ht => subst hs1; exact ht ▸ h.after_pushBit hr (hc hlt)
  | cycled s1 hlt hs1 hd hw hf ht =>
    subst hs1
    exact ht ▸ (h.after_pushBit hr (hc hlt)).after_decodeCycle (by simp) hw hf _ _
  | spanOverflow s1 hlt hs1 hd ht => exact ht ▸ h.after_setFault _

theorem after_endRun {s : State} (h : RunInv s) : RunInv (endRun s) where
  legal := by simp [atRest]
  constants := by simp [atRest]
  waveform := by simpa using h.waveform
  acquiring := by simp
  beyondHalf := by simp
  ordered := by simpa using h.ordered
  spans r hr := h.spans r (mem_of_mem_endRun hr)

/-- Each of the sampler's three moves ends at a next centre: ACQUIRE's because `ICO` is at least half a
bit period, a re-lock's because its transition lies after the cursor, a free-running one's because `SPB`
is positive (R67, R68, R69, R70). -/
theorem after_coreStepped {s t : State} (h : RunInv s) (hs : CoreStepped s t) : RunInv t := by
  have hlaws (hr : atRest s = false) :
      4 ≤ s.tim.spb.toNat ∧ s.tim.half.toNat ≤ icoNumber s.tim := by
    rw [h.constants hr]
    exact ⟨(deriveTiming_laws _ (h.legal hr)).1, half_le_icoNumber _ (h.legal hr)⟩
  cases hs with
  | rested hp ht => exact ht ▸ h
  | ended hp hm ht => exact ht ▸ h.after_endRun
  | acquired hp base hn hb =>
    have hr : atRest s = false := by simp [atRest, hp]
    refine h.after_bitStepped hr hb fun hlt => h.nextCentre_of_acquire hp ?_
    have hbase : s.cur < base := (nextTransition_eq_some hn).2.1
    have := (hlaws hr).2
    rw [BitVec.lt_def] at hbase ⊢
    rw [toNat_advance hlt]
    omega
  | freeRan hp hm hc hb =>
    have hr : atRest s = false := by simp [atRest, hp]
    refine h.after_bitStepped hr hb fun hlt => h.nextCentre_of_cur_lt hp ?_
    have := (hlaws hr).1
    rw [BitVec.lt_def, toNat_advance hlt]
    omega
  | relocked hp hc base hn hb =>
    refine h.after_bitStepped (by simp [atRest, hp]) hb fun hlt => h.nextCentre_of_cur_lt hp ?_
    have hbase : s.cur < base := (nextTransition_eq_some hn).2.1
    rw [BitVec.lt_def] at hbase ⊢
    rw [toNat_advance hlt]
    omega

theorem after_hostMoved {m : HostMove} {s t : State} (h : RunInv s) (hs : HostMoved m s t) :
    RunInv t := by
  cases hs with
  | notEnabled ht => exact ht ▸ h
  | configured c hp ht =>
    have hrest : atRest t = true := by rw [ht]; exact hp
    have hnot (hr : atRest t = false) : False := by simp [hrest] at hr
    subst ht
    exact ⟨fun hr => (hnot hr).elim, fun hr => (hnot hr).elim, h.waveform,
      h.acquiring, h.beyondHalf, h.ordered, h.spans⟩
  | bound c hp hc ht =>
    subst ht
    exact ⟨h.legal, h.constants, hc, h.acquiring, h.beyondHalf, h.ordered, h.spans⟩
  | started hm hp hc ht =>
    subst ht
    exact ⟨fun _ => hc, fun _ => rfl, h.waveform, fun _ => rfl, by simp, by simp, by simp⟩
  | startRefused hm hp hc ht => exact ht ▸ h.after_setFault _
  | stopped hm hp ht => exact ht ▸ h.after_endRun

end RunInv

/-- Settles O57: the core's step and the host's moves each keep the invariant. -/
theorem stepKeepsTheRunInvariant : Obligations.StepKeepsTheRunInvariant := by
  intro s t h hs
  have h' : RunInv { s with host := s.host.tail } :=
    ⟨h.legal, h.constants, h.waveform, h.acquiring, h.beyondHalf, h.ordered, h.spans⟩
  obtain ⟨-, ⟨hcore, -⟩ | ⟨m, -, -, hhost⟩⟩ := step_cases hs
  · exact h'.after_coreStepped hcore
  · exact h'.after_hostMoved hhost

/-- Settles O54: at reset the window and `OUT` are empty, nothing is held, and the configuration of log
entry 1 is legal. -/
theorem resetSatisfiesTheInvariants : Obligations.ResetSatisfiesTheInvariants := by
  have hrecords : State.reset.out ++ State.reset.pending.toList = [] := rfl
  refine ⟨.of_empty rfl rfl rfl (by decide), .of_none rfl,
    ⟨fun _ => by decide, fun _ => by decide, rfl, fun _ => rfl, by decide, .nil, ?_⟩, ?_⟩
  · simp [hrecords]
  · simp [OutputInv, hrecords]

end Sys2Proof.Machine
end

section
/-! SUPPORT. The statements about bits in transmission order: what the window holds after bits have entered
it, and the round trip of an instruction through its ten bits. -/

namespace Sys2Proof

/-! ### Decode undoes encode (R45, R54, R59) -/

/-- The default row alone has no entry in the table (R54). -/
theorem Laws.RomRow.eq_invalid_of_entry_miss {i : Instr} (h : Laws.RomRow.entry i = .miss) :
    ∃ v, i = .invalid v := by
  cases i
  case invalid v => exact ⟨v, rfl⟩
  all_goals cases h

/-- A codeword the table misses decodes to the default row, which keeps its ten bits (R54). -/
theorem decode_of_rom_miss {w : Codeword} (h : Machine.rom w = .miss) : decode w = .invalid w := by
  have hrow := Laws.RomRow.all (decode w) (decode_wellFormed w)
  rw [encode_decode_word, h] at hrow
  obtain ⟨v, hv⟩ := Laws.RomRow.eq_invalid_of_entry_miss hrow.symm
  rw [hv, decode_eq_invalid hv]

theorem decode_encode {i : Instr} (h : i.WellFormed) : decode (encode i) = i := by
  cases i
  case invalid w =>
    have hmiss : Machine.rom w = .miss := by simpa [Instr.WellFormed, Instr.wellFormed] using h
    exact decode_of_rom_miss hmiss
  all_goals rfl

/-! ### Bits entering a codeword (R31, R80) -/

/-- A codeword after one more bit has entered at `WIN[0]` (R80). -/
def shiftBit (w : Codeword) (b : Bool) : Codeword := (w <<< 1) ||| (BitVec.ofBool b).setWidth 10

theorem codewordOfBits_eq_foldl (bits : List Bool) : codewordOfBits bits = bits.foldl shiftBit 0 := rfl

theorem shiftBit_getLsbD_zero (w : Codeword) (b : Bool) : (shiftBit w b).getLsbD 0 = b := by
  simp [shiftBit]

theorem shiftBit_getLsbD_succ (w : Codeword) (b : Bool) {k : Nat} (hk : k + 1 < 10) :
    (shiftBit w b).getLsbD (k + 1) = w.getLsbD k := by
  simp [shiftBit, hk, BitVec.getLsbD_eq_getElem (show k < 10 by omega)]

/-- After some bits have entered, the last of them stands at `WIN[0]`, the one before it at `WIN[1]` and
so on; above them stands what was there before. -/
theorem foldl_shiftBit_getLsbD (bits : List Bool) (w : Codeword) {k : Nat} (hk : k < 10) :
    (bits.foldl shiftBit w).getLsbD k = bits.reverse.getD k (w.getLsbD (k - bits.length)) := by
  induction bits using List.reverseRecOn generalizing k with
  | nil => simp
  | append_singleton bits b ih =>
    rw [List.foldl_concat, List.reverse_concat, List.length_append, List.length_singleton]
    cases k with
    | zero => rw [shiftBit_getLsbD_zero, List.getD_cons_zero]
    | succ k =>
      rw [shiftBit_getLsbD_succ _ _ hk, ih (by omega), List.getD_cons_succ, Nat.add_sub_add_right]

/-- Ten bits push out whatever the codeword held. -/
theorem foldl_shiftBit_eq_codewordOfBits {bits : List Bool} (hlen : bits.length = 10) (w : Codeword) :
    bits.foldl shiftBit w = codewordOfBits bits := by
  refine BitVec.eq_of_getLsbD_eq fun k hk => ?_
  have hin : k < bits.reverse.length := by simpa [hlen] using hk
  rw [codewordOfBits_eq_foldl, foldl_shiftBit_getLsbD _ _ hk, foldl_shiftBit_getLsbD _ _ hk,
    List.getD_eq_getElem _ _ hin, List.getD_eq_getElem _ _ hin]

/-! ### The ten bits of a codeword (R31, R56) -/

@[simp] theorem bitsOfCodeword_length (w : Codeword) : (bitsOfCodeword w).length = 10 := by
  simp [bitsOfCodeword]

theorem codewordOfBits_bitsOfCodeword (w : Codeword) : codewordOfBits (bitsOfCodeword w) = w := by
  refine BitVec.eq_of_getLsbD_eq fun k hk => ?_
  have hin : k < (bitsOfCodeword w).reverse.length := by simpa using hk
  have hpos : 9 - (9 - k) = k := by omega
  rw [codewordOfBits_eq_foldl, foldl_shiftBit_getLsbD _ _ hk, List.getD_eq_getElem _ _ hin]
  simp [bitsOfCodeword, hpos]

theorem decodeBits_of_length {bits : List Bool} (h : bits.length = 10) :
    decodeBits bits = .ok (decode (codewordOfBits bits)) := if_pos h

theorem decodeBits_of_length_ne {bits : List Bool} (h : bits.length ≠ 10) :
    decodeBits bits = .error .notTenBits := if_neg h

theorem decodeBits_encodeBits {i : Instr} (h : i.WellFormed) : decodeBits (encodeBits i) = .ok i := by
  rw [encodeBits, decodeBits_of_length (bitsOfCodeword_length _), codewordOfBits_bitsOfCodeword,
    decode_encode h]

/-- Settles O3: the bits of the encoding are its codeword again, and the decoder undoes the encoder. -/
theorem tenBitsInTransmissionOrderDecode : Obligations.TenBitsInTransmissionOrderDecode :=
  ⟨fun _ => decodeBits_encodeBits, fun _ => decodeBits_of_length_ne⟩

/-! ### Bits entering the window (R31, R80) -/

namespace Machine

theorem foldl_shiftIn_win (bits : List Bool) (s : State) :
    (bits.foldl (fun t b => shiftIn b t) s).win = bits.foldl shiftBit s.win := by
  induction bits generalizing s with
  | nil => rfl
  | cons b bits ih => exact ih (shiftIn b s)

theorem foldl_shiftIn_wlen (bits : List Bool) {s : State} (hs : s.wlen ≤ 10) :
    (bits.foldl (fun t b => shiftIn b t) s).wlen = min (s.wlen + bits.length) 10 := by
  induction bits generalizing s with
  | nil => simp [hs]
  | cons b bits ih =>
    rw [List.foldl_cons, ih (by simp), shiftIn_wlen, List.length_cons]
    omega

/-- Settles O34: ten bits fill the window and push out whatever stood in `WIN`. -/
theorem tenBitsFillTheWindow : Obligations.TenBitsFillTheWindow := by
  intro b0 b1 b2 b3 b4 b5 b6 b7 b8 b9 s hs
  have hwlen := foldl_shiftIn_wlen [b0, b1, b2, b3, b4, b5, b6, b7, b8, b9] (s := s) (by omega)
  have hwin := foldl_shiftIn_win [b0, b1, b2, b3, b4, b5, b6, b7, b8, b9] s
  rw [hs] at hwlen
  rw [foldl_shiftBit_eq_codewordOfBits rfl] at hwin
  exact ⟨hwlen, hwin⟩

end Machine

end Sys2Proof
end

section
/-! SUPPORT. The statements about the encoding and the table: the rows of the listing against the construction
of 30_encoding.md, the entries of the table counted row by row, the meaning of an invalid codeword, and what
synchronizes a hunting core. -/

namespace Sys2Proof

/-! ### Decode undoes encode (R45, R54, R59) -/

/-- Settles O1: the default row keeps all ten bits, and a table row is one of the words the decoder lists. -/
theorem decodeOfEncodeIsTheInstruction : Obligations.DecodeOfEncodeIsTheInstruction :=
  fun _ => decode_encode

/-- Settles O2: each word is the encoding of its symbol, and the last two stand in no row of the table. -/
theorem writtenOutWordsDecode : Obligations.WrittenOutWordsDecode :=
  ⟨decode_encode (i := .k28_5_neg) rfl, decode_encode (i := .k28_5_pos) rfl,
    decode_encode (i := .d0_0_pos) rfl, decode_encode (i := .d0_1_neg) rfl,
    decode_encode (i := .d10_2) rfl, decode_encode (i := .d19_5) rfl,
    decode_encode (i := .d17_7_neg) rfl, decode_encode (i := .k28_7_neg) rfl,
    decode_of_rom_miss (by decide), decode_of_rom_miss (by decide)⟩

namespace Machine

/-! ### The fields of a value (R23, R32, R46) -/

@[simp] theorem valueX_symbolValue (x : BitVec 5) (y : BitVec 3) : valueX (symbolValue x y) = x := by
  revert x y; decide

@[simp] theorem valueY_symbolValue (x : BitVec 5) (y : BitVec 3) : valueY (symbolValue x y) = y := by
  revert x y; decide

theorem value9_false_toNat (v : Value) : (value9 false v).toNat = v.toNat := by
  rw [value9, BitVec.toNat_append]
  simp

theorem value9_getLsbD_eight (k : Bool) (v : Value) : (value9 k v).getLsbD 8 = k := by
  rw [value9, BitVec.getLsbD_append]
  simp

theorem value9_extractLsb' (k : Bool) (v : Value) : (value9 k v).extractLsb' 0 8 = v :=
  BitVec.extractLsb'_append_eq_right

/-! ### The rows of the listing (R51, R94) -/

namespace ListingRow

/-- The row's value without its K flag (R23). -/
def value (r : ListingRow) : Value := r.value9.extractLsb' 0 8

/-- The row's K flag (R23). -/
def isK (r : ListingRow) : Bool := r.value9.getLsbD 8

/-- The row's codeword in the column of a running disparity. -/
def form (r : ListingRow) : Disparity → Codeword := column r.minus r.plus

/-- The class of that codeword (R52). -/
def formClass (r : ListingRow) (rd : Disparity) : DisparityClass :=
  if r.minus = r.plus then .neutral else column .negative .positive rd

theorem holds_iff (r : ListingRow) (w : Codeword) : r.holds w = true ↔ ∃ rd, w = r.form rd := by
  have h (a : Codeword) : Nat.beq a.toNat w.toNat = true ↔ w = a := by
    rw [Nat.beq_eq, BitVec.toNat_inj, eq_comm]
  rw [holds, Bool.or_eq_true, h, h]
  constructor
  · rintro (hw | hw)
    · exact ⟨.negative, hw⟩
    · exact ⟨.positive, hw⟩
  · rintro ⟨_ | _, hw⟩
    · exact .inl hw
    · exact .inr hw

theorem entry_form (r : ListingRow) (rd : Disparity) :
    r.entry (r.form rd) = .hit r.value r.isK (r.formClass rd) := by
  by_cases h : r.minus = r.plus
  · simp [entry, value, isK, formClass, h]
  · cases rd
    · simp [entry, value, isK, formClass, form, column, h]
    · simp [entry, value, isK, formClass, form, column, h, Ne.symm h]

/-- A codeword is its row's form in every column that its class names (R52, R96). -/
theorem form_eq_of_mem_classColumns (r : ListingRow) {rd rd' : Disparity}
    (h : rd' ∈ classColumns (r.formClass rd)) : r.form rd = r.form rd' := by
  by_cases heq : r.minus = r.plus
  · cases rd <;> cases rd' <;> simp [form, column, heq]
  · cases rd <;> simp_all [formClass, column, classColumns]

end ListingRow

/-- The symbols of R51: every data symbol, and of the control symbols the twelve K-characters. -/
abbrev IsSymbol (k : Bool) (x : BitVec 5) (y : BitVec 3) : Prop :=
  k = true → x = 28 ∨ (y = 7 ∧ (x = 23 ∨ x = 27 ∨ x = 29 ∨ x = 30))

theorem listing_isSymbol : ∀ r ∈ listing, IsSymbol r.isK (valueX r.value) (valueY r.value) := by
  decide +kernel

theorem listing_form_checked : ∀ r ∈ listing, ∀ rd ∈ [Disparity.negative, .positive],
    r.form rd = buildCodeword r.isK (valueX r.value).toNat (valueY r.value).toNat rd := by
  decide +kernel

theorem listing_rowOf_checked : ∀ r ∈ listing, ∀ rd ∈ [Disparity.negative, .positive],
    rowOf (r.form rd) = some r := by
  decide +kernel

/-- The 9-bit values of the twelve K-characters (R51). -/
def kValues : List Nat :=
  [0x11C, 0x13C, 0x15C, 0x17C, 0x19C, 0x1BC, 0x1DC, 0x1F7, 0x1FB, 0x1FC, 0x1FD, 0x1FE]

/-- The listing's values in order (R94): the 256 data symbols, then the K-characters. -/
theorem listing_values : listing.map (fun r => r.value9.toNat) = List.range 256 ++ kValues := by
  decide +kernel

/-- Every symbol of R51 has its row. -/
theorem exists_row_of_isSymbol {k : Bool} {x : BitVec 5} {y : BitVec 3} (h : IsSymbol k x y) :
    ∃ r ∈ listing, r.isK = k ∧ r.value = symbolValue x y := by
  have hmem : (value9 k (symbolValue x y)).toNat ∈ listing.map fun r => r.value9.toNat := by
    rw [listing_values]
    cases k with
    | false =>
      rw [value9_false_toNat]
      exact List.mem_append_left _ (List.mem_range.mpr (symbolValue x y).isLt)
    | true =>
      refine List.mem_append_right _ ?_
      obtain rfl | ⟨rfl, hx⟩ := h rfl
      · revert y; decide
      · obtain rfl | rfl | rfl | rfl := hx <;> decide
  obtain ⟨r, hr, hv⟩ := List.mem_map.mp hmem
  have hv9 : r.value9 = value9 k (symbolValue x y) := BitVec.eq_of_toNat_eq hv
  refine ⟨r, hr, ?_, ?_⟩
  · rw [ListingRow.isK, hv9, value9_getLsbD_eight]
  · rw [ListingRow.value, hv9, value9_extractLsb']

section Row

variable {r : ListingRow} (hr : r ∈ listing) (rd : Disparity)
include hr

/-- A row holds the constructed forms of its symbol (R50). -/
theorem form_eq_buildCodeword :
    r.form rd = buildCodeword r.isK (valueX r.value).toNat (valueY r.value).toNat rd :=
  listing_form_checked r hr rd (by cases rd <;> simp)

/-- No other row before it holds one of its codewords. -/
theorem rowOf_form : rowOf (r.form rd) = some r :=
  listing_rowOf_checked r hr rd (by cases rd <;> simp)

theorem rom_form : rom (r.form rd) = .hit r.value r.isK (r.formClass rd) := by
  rw [rom, rowOf_form hr]
  exact r.entry_form rd

end Row

/-- No codeword stands in two rows (R55). -/
theorem eq_of_holds {r q : ListingRow} (hr : r ∈ listing) (hq : q ∈ listing) {w : Codeword}
    (hrw : r.holds w = true) (hqw : q.holds w = true) : r = q := by
  obtain ⟨rd, rfl⟩ := (r.holds_iff w).mp hrw
  obtain ⟨rd', hw⟩ := (q.holds_iff _).mp hqw
  have := rowOf_form hr rd
  rw [hw, rowOf_form hq] at this
  exact (Option.some.inj this).symm

/-- A codeword the table holds is a form of its row. -/
theorem exists_form_of_rom_ne_miss {w : Codeword} (h : rom w ≠ .miss) :
    ∃ r ∈ listing, ∃ rd, w = r.form rd := by
  obtain ⟨r, hr, hw | hw⟩ := mem_listing_of_rom h
  · exact ⟨r, hr, .negative, hw⟩
  · exact ⟨r, hr, .positive, hw⟩

/-- `exists_form_of_rom_ne_miss`, with the entry's fields. -/
theorem exists_form_of_rom_hit {w : Codeword} {v : Value} {k : Bool} {c : DisparityClass}
    (h : rom w = .hit v k c) :
    ∃ r ∈ listing, ∃ rd, w = r.form rd ∧ v = r.value ∧ k = r.isK ∧ c = r.formClass rd := by
  obtain ⟨r, hr, rd, rfl⟩ := exists_form_of_rom_ne_miss (w := w) (by simp [h])
  rw [rom_form hr] at h
  obtain ⟨hv, hk, hc⟩ := RomEntry.hit.inj h
  exact ⟨r, hr, rd, rfl, hv.symm, hk.symm, hc.symm⟩

/-- Settles O4: the symbol has a row, and the row holds its two constructed forms. -/
theorem tableHoldsEveryConstructedCodeword : Obligations.TableHoldsEveryConstructedCodeword := by
  intro k x y rd h
  obtain ⟨r, hr, rfl, hv⟩ := exists_row_of_isSymbol h
  have hform (rd' : Disparity) : buildCodeword r.isK x.toNat y.toNat rd' = r.form rd' := by
    rw [form_eq_buildCodeword hr, hv, valueX_symbolValue, valueY_symbolValue]
  rw [hform, hform, hform, rom_form hr, hv]
  cases rd <;> rfl

/-- Settles O5: an entry stands in a row, and the row's forms are the constructed ones of its value. -/
theorem tableHoldsOnlyConstructedCodewords : Obligations.TableHoldsOnlyConstructedCodewords := by
  intro w v k c h
  obtain ⟨r, hr, rd, rfl, rfl, rfl, rfl⟩ := exists_form_of_rom_hit h
  refine ⟨fun rd' hrd' => ?_, listing_isSymbol r hr⟩
  rw [r.form_eq_of_mem_classColumns hrd', form_eq_buildCodeword hr]

/-! ### The entries of the table, row by row (R55, R58) -/

/-- The columns a row's codewords stand in, one where both columns hold the one codeword. -/
def ListingRow.columns (r : ListingRow) : List Disparity :=
  if r.minus = r.plus then [.negative] else [.negative, .positive]

/-- The codewords of a row, each with its entry. -/
def ListingRow.hits (r : ListingRow) : List (Codeword × RomEntry) :=
  r.columns.map fun rd => (r.form rd, .hit r.value r.isK (r.formClass rd))

/-- The codewords the table holds, each with its entry, in the order of the listing. -/
def tableHits : List (Codeword × RomEntry) := listing.flatMap ListingRow.hits

theorem ListingRow.exists_mem_columns (r : ListingRow) (rd : Disparity) :
    ∃ rd' ∈ r.columns, r.form rd' = r.form rd := by
  by_cases h : r.minus = r.plus <;> cases rd <;> simp [columns, form, column, h]

theorem ListingRow.mem_hits {r : ListingRow} (hr : r ∈ listing) {p : Codeword × RomEntry} :
    p ∈ r.hits ↔ ∃ rd, p.1 = r.form rd ∧ p.2 = rom p.1 := by
  constructor
  · intro hp
    obtain ⟨rd, -, rfl⟩ := List.mem_map.mp hp
    exact ⟨rd, rfl, (rom_form hr rd).symm⟩
  · rintro ⟨rd, h1, h2⟩
    obtain ⟨rd', hrd', hform⟩ := r.exists_mem_columns rd
    rw [h1, ← hform, rom_form hr] at h2
    exact List.mem_map.mpr ⟨rd', hrd', Prod.ext (hform.trans h1.symm) h2.symm⟩

theorem mem_tableHits {p : Codeword × RomEntry} : p ∈ tableHits ↔ p.2 = rom p.1 ∧ p.2 ≠ .miss := by
  constructor
  · intro hp
    obtain ⟨r, hr, hp⟩ := List.mem_flatMap.mp hp
    obtain ⟨rd, h1, h2⟩ := (ListingRow.mem_hits hr).mp hp
    refine ⟨h2, ?_⟩
    rw [h2, h1, rom_form hr]
    simp
  · rintro ⟨h2, hne⟩
    obtain ⟨r, hr, rd, h1⟩ := exists_form_of_rom_ne_miss (h2 ▸ hne)
    exact List.mem_flatMap.mpr ⟨r, hr, (ListingRow.mem_hits hr).mpr ⟨rd, h1, h2⟩⟩

theorem listing_nodup : listing.Nodup := by
  refine List.Nodup.of_map (fun r => r.value9.toNat) ?_
  rw [listing_values]
  have hK : ∀ v ∈ kValues, 256 ≤ v := by decide
  refine List.nodup_append.mpr ⟨List.nodup_range, by decide, fun a ha b hb => ?_⟩
  have := List.mem_range.mp ha
  have := hK b hb
  omega

theorem tableHits_length : tableHits.length = 464 := by decide +kernel

theorem tableHits_nodup : tableHits.Nodup := by
  refine List.nodup_flatMap.mpr ⟨fun r _ => ?_, listing_nodup.pairwise_of_forall_ne ?_⟩
  · by_cases h : r.minus = r.plus <;>
      simp [ListingRow.hits, ListingRow.columns, ListingRow.form, column, h]
  · intro r hr q hq hne p hpr hpq
    obtain ⟨rd, h1, -⟩ := (ListingRow.mem_hits hr).mp hpr
    obtain ⟨rd', h1', -⟩ := (ListingRow.mem_hits hq).mp hpq
    exact hne (eq_of_holds hr hq ((r.holds_iff _).mpr ⟨rd, h1⟩) ((q.holds_iff _).mpr ⟨rd', h1'⟩))

/-- Every codeword with its entry, in the order of R27. -/
def romPairs : List (Codeword × RomEntry) :=
  (List.range 1024).map fun n => (BitVec.ofNat 10 n, rom (BitVec.ofNat 10 n))

theorem mem_romPairs {p : Codeword × RomEntry} : p ∈ romPairs ↔ p.2 = rom p.1 := by
  constructor
  · intro hp
    obtain ⟨n, -, rfl⟩ := List.mem_map.mp hp
    rfl
  · intro h
    exact List.mem_map.mpr ⟨p.1.toNat, List.mem_range.mpr p.1.isLt, by simp [Prod.ext_iff, h]⟩

theorem romPairs_nodup : romPairs.Nodup := by
  refine List.Nodup.map_on (fun m hm n hn h => ?_) List.nodup_range
  have := congrArg BitVec.toNat (congrArg Prod.fst h)
  simp only [BitVec.toNat_ofNat] at this
  rw [List.mem_range] at hm hn
  omega

/-- The hits of the 1024 entries are those of the listing, each once. -/
theorem romPairs_hits_perm : (romPairs.filter fun p => p.2 != .miss).Perm tableHits := by
  refine (List.perm_ext_iff_of_nodup (romPairs_nodup.filter _) tableHits_nodup).mpr fun p => ?_
  rw [List.mem_filter, mem_romPairs, mem_tableHits, bne_iff_ne]

/-- A count over the 1024 entries that counts no miss is a count over the rows. -/
theorem countP_romPairs {f : Codeword × RomEntry → Bool} (hf : ∀ w, f (w, .miss) = false) :
    romPairs.countP f = tableHits.countP f := by
  rw [← romPairs_hits_perm.countP_eq, List.countP_filter]
  refine List.countP_congr fun p _ => ?_
  obtain ⟨w, _ | _⟩ := p <;> simp [hf]

/-- `countP_romPairs` for a count that reads the entry alone. -/
theorem countP_rom {f : RomEntry → Bool} (hf : f .miss = false) :
    ((List.range 1024).map fun n => rom (BitVec.ofNat 10 n)).countP f =
      tableHits.countP fun p => f p.2 := by
  rw [← countP_romPairs fun _ => hf, romPairs, List.countP_map, List.countP_map]
  rfl

/-- What is no hit is a miss. -/
theorem countP_miss {f : RomEntry → Bool} (hf : ∀ e, f e = (e == .miss)) (l : List RomEntry) :
    l.countP f = l.length - l.countP fun e => e != .miss := by
  have hsplit := l.length_eq_countP_add_countP fun e => e != .miss
  refine (List.countP_congr fun e _ => ?_).trans (Nat.eq_sub_of_add_eq' hsplit.symm)
  simp [hf]

/-- The table holds as many codewords as its rows do. -/
theorem countP_rom_hit :
    ((List.range 1024).map fun n => rom (BitVec.ofNat 10 n)).countP (fun e => e != .miss) =
      tableHits.length := by
  rw [countP_rom rfl]
  exact List.countP_eq_length.mpr fun p hp => bne_iff_ne.mpr (mem_tableHits.mp hp).2

/-- `countP_romPairs` for the codewords with `m` ones. -/
theorem countP_ones (m : Nat) :
    ((List.range 1024).countP fun n =>
      rom (BitVec.ofNat 10 n) != .miss && bitCount (BitVec.ofNat 10 n) == m) =
      tableHits.countP fun p => p.2 != .miss && bitCount p.1 == m := by
  rw [← countP_romPairs (fun _ => rfl), romPairs, List.countP_map]
  rfl

/-- The ones counts a codeword of a class may have (R58). -/
def classOnes : DisparityClass → List Nat
  | .negative => [5, 6]
  | .positive => [4, 5]
  | .neutral => [5]

theorem listing_ones_checked : ∀ r ∈ listing, ∀ rd ∈ [Disparity.negative, .positive],
    bitCount (r.form rd) ∈ classOnes (r.formClass rd) := by
  decide +kernel

theorem bitCount_mem_classOnes {w : Codeword} {v : Value} {k : Bool} {c : DisparityClass}
    (h : rom w = .hit v k c) : bitCount w ∈ classOnes c := by
  obtain ⟨r, hr, rd, rfl, -, -, rfl⟩ := exists_form_of_rom_hit h
  exact listing_ones_checked r hr rd (by cases rd <;> simp)

/-- The table misses a run of `m` ones after zeros, for every `m` (R58). -/
theorem rom_miss_of_ones : ∀ m ≤ 10,
    rom (BitVec.ofNat 10 (2 ^ m - 1)) = .miss ∧ bitCount (BitVec.ofNat 10 (2 ^ m - 1)) = m := by
  decide +kernel

/-- Settles O6: each count of entries is one over the rows of the listing. -/
theorem tableCounts : Obligations.TableCounts := by
  refine ⟨(countP_rom rfl).trans ?data, (countP_rom rfl).trans ?control,
    (countP_rom rfl).trans ?neutral, (countP_miss ?isMiss _).trans ?misses, ?twoForms,
    fun r hr q hq w => eq_of_holds hr hq, ?ones, (countP_ones 5).trans ?five,
    (countP_ones 6).trans ?six, (countP_ones 4).trans ?four, fun m hm => ⟨_, rom_miss_of_ones m hm⟩⟩
  case isMiss => rintro (_ | _) <;> rfl
  case misses => rw [List.length_map, List.length_range, countP_rom_hit, tableHits_length]
  case ones =>
    intro w v k c h
    have := bitCount_mem_classOnes h
    cases c <;> simpa [classOnes] using this
  case data | control | neutral | twoForms | five | six | four => decide +kernel

/-! ### The meaning of an invalid codeword (R93, R123) -/

/-- With suppression off a record is emitted at once (R113). -/
theorem deliver_of_no_suppression {s : State} (h : s.cfg.idleDrop = false) (r : SymbolRecord) :
    deliver r s = { s with out := s.out ++ [r] } := by
  simp [deliver, emit, h]

/-- `cycleRecord` with the bit centres of the window named (R86, R111). -/
theorem cycleRecord_of_cycleSpans {s : State} {newest oldest : SampleIdx}
    (h : CycleSpans s newest oldest) (w : Codeword) (e : RomEntry) :
    cycleRecord w e s =
      { value := (lookupFields e).value, isK := (lookupFields e).isK, codeword := w
        dclass := (lookupFields e).dclass, valid := (lookupFields e).valid
        kind := classify (lookupFields e).valid (lookupFields e).isK
        violation := rdViolation w s.rd s.first, rdAtDecode := s.rd
        spanStart := spanFirst oldest s.tim.half, spanEnd := spanLast newest s.tim.half } := by
  obtain ⟨hnewest, holdest⟩ := centre_of_cycleSpans h
  rw [cycleRecord, hnewest, holdest]

/-- A decode cycle on a full window whose span fits delivers its record and goes on (R123). -/
theorem decodeCycle_of_cycleSpans {s : State} {newest oldest : SampleIdx}
    (h : CycleSpans s newest oldest) (w : Codeword) (e : RomEntry) :
    decodeCycle w e s = .next (deliver (cycleRecord w e s) (afterWindow w s)) := by
  obtain ⟨hw, hf⟩ := (cycleReady_iff s).mp (cycleReady_of_cycleSpans h)
  exact decodeCycle_next hw hf

/-- Settles O11: the decode cycle on a miss, with nothing held back. -/
theorem invalidCodewordEmitsAnError : Obligations.InvalidCodewordEmitsAnError := by
  intro w s newest oldest _ hdrop h
  have hexec : exec (.invalid w) s = decodeCycle w .miss s := exec_eq_entry (.invalid w) s
  rw [hexec, decodeCycle_of_cycleSpans h, cycleRecord_of_cycleSpans h,
    deliver_of_no_suppression (s := afterWindow w s) hdrop]
  simp [afterWindow, clearWindow, lookupFields, classify, spanFirst, spanLast]

/-! ### What synchronizes a hunting core (R53, R83) -/

/-- The bit that a core samples stands in the window as the statements write it (R72, R80). -/
theorem pushBit_win_eq_withBitAt (s : State) (c : SampleIdx) :
    (pushBit { s with cur := c, phase := .run }).win = (withBitAt s c).win := pushBit_win _

theorem isCommaPattern_iff (w : Codeword) : isCommaPattern w = true ↔ w = 0x0FA ∨ w = 0x305 := by
  simp [isCommaPattern, commaMinus, commaPlus]

/-- A bit that synchronizes a hunting core completes a comma (R83). -/
theorem comma_of_pushBit_sync {s : State} (hs : s.sync = .unsynchronized)
    (h : (pushBit s).sync = .synchronized) :
    9 ≤ s.wlen ∧ ((pushBit s).win = 0x0FA ∨ (pushBit s).win = 0x305) := by
  rw [pushBit_sync] at h
  split at h
  next hlock =>
    obtain ⟨-, hlen, hcomma⟩ := hlock
    rw [pushBit_wlen] at hlen
    exact ⟨by omega, (isCommaPattern_iff _).mp hcomma⟩
  next => exact absurd (hs.symm.trans h) (by simp)

/-- A bit step that synchronizes has completed a comma at its new cursor: one without a decode cycle leaves
`SYNC` alone. -/
theorem BitOutcome.comma_of_sync {s t : State} (h : BitOutcome s t) (hs : s.sync = .unsynchronized)
    (ht : t.sync = .synchronized) :
    9 ≤ s.wlen ∧ ((withBitAt s t.cur).win = 0x0FA ∨ (withBitAt s t.cur).win = 0x305) := by
  cases h with
  | fault b n e => simp [e, hs] at ht
  | pushed c hc hd e =>
    rw [e, pushBit_sync_of_no_cycle hd] at ht
    exact absurd (hs.symm.trans ht) (by simp)
  | cycled c hc u hu hd hw hf e =>
    have hcur : t.cur = c := by simp [e, hu]
    rw [hcur, ← pushBit_win_eq_withBitAt]
    refine comma_of_pushBit_sync (s := { s with cur := c, phase := .run }) hs ?_
    rw [← hu]
    exact ((cycleDue_iff u).mp hd).2

/-- Settles O36: of all a step can do only a bit step synchronizes. -/
theorem onlyACommaSynchronizes : Obligations.OnlyACommaSynchronizes := by
  intro s t h hs ht
  obtain ⟨-, hstep⟩ := stepped_of_step h
  cases hstep with
  | stayed e => simp [e, hs] at ht
  | ended hp e => simp [e, hs] at ht
  | bit hp hb => exact hb.comma_of_sync hs ht
  | configured c hp e => simp [e, hs] at ht
  | bound c hp hc e => simp [e, hs] at ht
  | started hm hp hc e => simp [e] at ht
  | startRefused hm hp hc e => simp [e, hs] at ht

end Machine
end Sys2Proof
end

section
/-! SUPPORT. The statements about the channel and the sampler: where the level of a waveform changes, what
each channel primitive answers, and what the core's step comes to from the index its sampler moves to; and
which model faults a step can raise. -/

namespace Sys2Proof.Machine

/-! ### The level of a waveform (R60) -/

theorem pairwise_of_risingFrom {t : SampleIdx} {l : List SampleIdx} (h : risingFrom t l = true) :
    (t :: l).Pairwise (· < ·) := by
  induction l generalizing t with
  | nil => exact List.pairwise_singleton _ _
  | cons u us ih =>
    obtain ⟨htu, hus⟩ : t < u ∧ risingFrom u us = true := by simpa [risingFrom] using h
    have hrest := ih hus
    refine List.pairwise_cons.mpr ⟨fun x hx => ?_, hrest⟩
    obtain rfl | hx := List.mem_cons.mp hx
    · exact htu
    · exact BitVec.lt_trans htu ((List.pairwise_cons.mp hrest).1 x hx)

/-- "`T` strictly increasing with `t1 ≥ 1`" (R60): no transition lies at index 0, and none is listed
twice. -/
theorem transitions_of_wf {c : Waveform} (h : c.wf = true) :
    (∀ t ∈ c.transitions, 0 < t) ∧ c.transitions.Nodup := by
  obtain ⟨hpos, hrising⟩ := List.pairwise_cons.mp (pairwise_of_risingFrom h)
  exact ⟨hpos, hrising.imp fun hlt => BitVec.ne_of_lt hlt⟩

theorem transitionsUpTo_eq_zero {i : SampleIdx} {l : List SampleIdx} (h : ∀ t ∈ l, i < t) :
    transitionsUpTo i l = 0 := by
  induction l with
  | nil => rfl
  | cons t ts ih =>
    obtain ⟨ht, hts⟩ := List.forall_mem_cons.mp h
    rw [transitionsUpTo, ih hts, if_neg (BitVec.not_le.mpr ht)]

/-- From one index to the next the count grows by the transitions at that next index. -/
theorem transitionsUpTo_eq_add_count {i : SampleIdx} (hi : i ≠ 0) (l : List SampleIdx) :
    transitionsUpTo i l = transitionsUpTo (i - 1) l + l.count i := by
  induction l with
  | nil => rfl
  | cons t ts ih =>
    have hhead :
        (if t ≤ i then 1 else 0) = (if t ≤ i - 1 then 1 else 0) + if t = i then 1 else 0 := by
      split_ifs <;> bv_omega
    rw [transitionsUpTo, transitionsUpTo, ih, hhead, List.count_cons]
    simp only [beq_iff_eq]
    omega

/-- One transition more turns the parity of the count. -/
theorem succ_mod_two_beq_one (n : Nat) : ((n + 1) % 2 == 1) = !(n % 2 == 1) := by
  obtain h | h := Nat.mod_two_eq_zero_or_one n <;> simp [Nat.add_mod, h]

/-- A waveform's level changes at an index exactly where a transition lies (R60). -/
theorem levelAt_ne_iff {c : Waveform} (h : c.wf = true) {i : SampleIdx} (hi : i ≠ 0) :
    levelAt c i ≠ levelAt c (i - 1) ↔ i ∈ c.transitions := by
  rw [levelAt, levelAt, transitionsUpTo_eq_add_count hi, (transitions_of_wf h).2.count]
  by_cases hmem : i ∈ c.transitions
  · rw [if_pos hmem, succ_mod_two_beq_one]
    simp [hmem]
  · simp [hmem]

/-- Settles O24: no transition lies at or before index 0, and at most one lies between an index and the
one before it. -/
theorem levelChangesExactlyAtTransitions : Obligations.LevelChangesExactlyAtTransitions := by
  intro c h
  refine ⟨?_, fun i hi => levelAt_ne_iff h hi⟩
  rw [levelAt, transitionsUpTo_eq_zero (transitions_of_wf h).1]
  simp

/-! ### The channel's primitives (R62 to R65) -/

theorem chanWouldCross_iff (n : Nat) (s : State) :
    chanWouldCross n s = true ↔
      ∃ t ∈ s.chan.transitions, s.cur.toNat < t.toNat ∧ t.toNat ≤ s.cur.toNat + n := by
  simp [chanWouldCross, BitVec.lt_def]

theorem chanMore_iff_exists (s : State) :
    chanMore s = true ↔ ∃ t ∈ s.chan.transitions, s.cur.toNat < t.toNat := by
  simp [chanMore, BitVec.lt_def]

/-- Settles O25: both primitives search the transitions, each with its own bounds. -/
theorem crossingBoundsAreInclusiveAbove : Obligations.CrossingBoundsAreInclusiveAbove :=
  fun s n => ⟨chanWouldCross_iff n s, chanMore_iff_exists s⟩

/-- Settles O26: the two outcomes of `chanAdvance` are told apart by the sum. -/
theorem advanceMovesTheCursorOrFaults : Obligations.AdvanceMovesTheCursorOrFaults := by
  intro s n
  obtain ⟨hlt, hmove⟩ | ⟨hge, hfault⟩ := chanAdvance_cases n s
  · refine ⟨fun _ => ⟨_, toNat_advance hlt, hmove⟩, fun hover => ?_⟩
    unfold indexLimit at hlt
    omega
  · refine ⟨fun hfits => ?_, fun _ => hfault⟩
    unfold indexLimit at hge
    omega

theorem IsNextTransition.unique {c t u : SampleIdx} {l : List SampleIdx}
    (ht : IsNextTransition c l t) (hu : IsNextTransition c l u) : t = u := by
  obtain ⟨htl, hct, htmin⟩ := ht
  obtain ⟨hul, hcu, humin⟩ := hu
  exact BitVec.le_antisymm (htmin u hul hcu) (humin t htl hct)

theorem nextTransition_eq_none_iff (c : SampleIdx) (l : List SampleIdx) :
    nextTransition c l = none ↔ ∀ t ∈ l, t ≤ c := by
  rw [nextTransition_eq_none]
  simp

/-- The model's search finds what the statements call the next transition (R64). -/
theorem nextTransition_eq_some_iff {c t : SampleIdx} {l : List SampleIdx} :
    nextTransition c l = some t ↔ IsNextTransition c l t := by
  refine ⟨nextTransition_eq_some, fun ht => ?_⟩
  cases hfound : nextTransition c l with
  | none =>
    obtain ⟨htl, hct, -⟩ := ht
    exact absurd ((nextTransition_eq_none_iff c l).mp hfound t htl) (BitVec.not_le.mpr hct)
  | some u => rw [IsNextTransition.unique (nextTransition_eq_some hfound) ht]

/-- Settles O27: the primitive moves the cursor to what its search finds. -/
theorem toNextTransitionMovesToTheLeast : Obligations.ToNextTransitionMovesToTheLeast := by
  refine fun s => ⟨fun t ht => ?_, fun hnone => ?_⟩
  · rw [chanToNextTransition, nextTransition_eq_some_iff.mpr ht]
  · rw [chanToNextTransition, (nextTransition_eq_none_iff _ _).mpr hnone]

theorem chanMore_of_isNextTransition {s : State} {t : SampleIdx}
    (h : IsNextTransition s.cur s.chan.transitions t) : chanMore s = true :=
  (chanMore_iff s).mpr ⟨t, nextTransition_eq_some_iff.mpr h⟩

theorem chanMore_eq_false {s : State} (h : ∀ t ∈ s.chan.transitions, t ≤ s.cur) :
    chanMore s = false := by
  rw [← Bool.not_eq_true, chanMore_iff, (nextTransition_eq_none_iff _ _).mpr h]
  simp

/-- A next transition no further than `n` samples away is a crossing (R63). -/
theorem chanWouldCross_of_isNextTransition {s : State} {t : SampleIdx} {n : Nat}
    (h : IsNextTransition s.cur s.chan.transitions t) (hle : t.toNat ≤ s.cur.toNat + n) :
    chanWouldCross n s = true := by
  obtain ⟨htl, hct, -⟩ := h
  exact (chanWouldCross_iff n s).mpr ⟨t, htl, BitVec.lt_def.mp hct, hle⟩

/-! ### The sampler's moves (R68, R69, R70) -/

/-- Where the sampler's move ends at a 64-bit index, it ends there. -/
theorem SamplerMove.eq_ok {s : State} {base c : SampleIdx} {n : Nat} {r : Except ModelFault State}
    (h : SamplerMove s base n r) (hc : c.toNat = base.toNat + n) :
    r = .ok { s with cur := c, phase := .run } := by
  obtain ⟨hlt, rfl⟩ | ⟨hge, -⟩ := h
  · rw [BitVec.eq_of_toNat_eq ((toNat_advance hlt).trans hc.symm)]
  · have := c.isLt
    unfold indexLimit at hge
    omega

/-- Where it would end past the last index, it overflows (R62). -/
theorem SamplerMove.eq_error {s : State} {base : SampleIdx} {n : Nat} {r : Except ModelFault State}
    (h : SamplerMove s base n r) (hge : indexLimit ≤ base.toNat + n) :
    r = .error (.cursorOverflow base n) := by
  obtain ⟨hlt, -⟩ | ⟨-, hr⟩ := h
  · omega
  · exact hr

section NextTransition

variable {s : State} {t : SampleIdx} (h : IsNextTransition s.cur s.chan.transitions t)
include h

theorem acquireMove_of_isNextTransition : SamplerMove s t (icoNumber s.tim) (acquireMove s) := by
  obtain ⟨u, hu, hmove⟩ := acquireMove_cases (chanMore_of_isNextTransition h)
  rwa [h.unique (nextTransition_eq_some hu)]

theorem relockMove_of_isNextTransition (hp : s.phase = .run) :
    SamplerMove s t s.tim.ofs.toNat (relockMove s) := by
  obtain ⟨u, hu, hmove⟩ := relockMove_cases hp (chanMore_of_isNextTransition h)
  rwa [h.unique (nextTransition_eq_some hu)]

end NextTransition

/-! ### The core's step, branch by branch (R122) -/

section CoreStep

variable {s : State} (hs : CoreMoves s)
include hs

theorem step_of_coreMoves : step s = settle (coreFetch s) := by
  obtain ⟨hf, hh⟩ := hs
  rw [step_eq_settle, fetch, hf, hh]

/-- The step is ACQUIRE (R68). -/
theorem step_acquire (hp : s.phase = .acquire) (hm : chanMore s = true) :
    step s = settle (sampleBit s (acquireMove s)) := by
  rw [step_of_coreMoves hs, coreFetch, hp]
  simp only [hm, if_true]

/-- The step is a re-lock (R70). -/
theorem step_relock (hp : s.phase = .run) (hc : chanWouldCross s.tim.spb.toNat s = true) :
    step s = settle (sampleBit s (relockMove s)) := by
  rw [step_of_coreMoves hs, coreFetch, hp]
  simp only [chanMore_of_wouldCross hc, hc, if_true]

/-- The step is free-running (R69). -/
theorem step_freeRun (hp : s.phase = .run) (hm : chanMore s = true)
    (hc : chanWouldCross s.tim.spb.toNat s = false) :
    step s = settle (sampleBit s (freeRunMove s)) := by
  rw [step_of_coreMoves hs, coreFetch, hp]
  simp [hm, hc]

/-- The step is END (R68, R71). -/
theorem step_end (hp : s.phase = .acquire ∨ s.phase = .run) (hm : chanMore s = false) :
    step s = .next (endRun s) := by
  rw [step_of_coreMoves hs, coreFetch]
  obtain hp | hp := hp <;> simp [hp, hm, settle]

/-- Whichever move leads to it, the step pushes the bit sampled at the index the statements name. -/
theorem step_of_samplesAt {c : SampleIdx} (h : SamplesAt s c) :
    step s = settle (sampleBit s (.ok { s with cur := c, phase := .run })) := by
  obtain ⟨hp, t, ht, hover, hc⟩ | ⟨hp, hm, hcross, hc⟩ | ⟨hp, hcross, t, ht, hc⟩ := h
  · rw [← icoNumber_of_not_over hover] at hc
    rw [step_acquire hs hp (chanMore_of_isNextTransition ht),
      (acquireMove_of_isNextTransition ht).eq_ok hc]
  · rw [step_freeRun hs hp hm hcross, (freeRunMove_cases hp).eq_ok hc]
  · rw [step_relock hs hp hcross, (relockMove_of_isNextTransition ht hp).eq_ok hc]

end CoreStep

/-! ### A bit that brings about no decode cycle (R72, R80 to R82) -/

/-- What a pushed bit leaves is the statements' `withBitAt`, but for the lock (R83). -/
theorem pushBit_eq_lockOnComma (s : State) (c : SampleIdx) :
    pushBit { s with cur := c, phase := .run } = lockOnComma (withBitAt s c) := rfl

/-- Where no decode cycle follows, the bit does not lock, and none is due. -/
theorem pushBit_of_noCycleAt {s : State} {c : SampleIdx} (h : NoCycleAt s c) :
    pushBit { s with cur := c, phase := .run } = withBitAt s c ∧
      cycleDue (withBitAt s c) = false := by
  have hlen : (withBitAt s c).wlen = min (s.wlen + 1) 10 := rfl
  have hsync : (withBitAt s c).sync = s.sync := rfl
  rw [pushBit_eq_lockOnComma, ← Bool.not_eq_true, cycleDue_iff, hsync, hlen]
  obtain ⟨-, hfull, hcomma, -⟩ | ⟨-, hsame⟩ := lockOnComma_cases (withBitAt s c)
  · exfalso
    obtain hshort | ⟨-, hminus, hplus⟩ := h
    · omega
    · exact ((isCommaPattern_iff _).mp hcomma).elim hminus hplus
  · refine ⟨hsame, fun ⟨hfull, hlocked⟩ => ?_⟩
    obtain hshort | ⟨hhunting, -, -⟩ := h
    · omega
    · exact absurd (hhunting.symm.trans hlocked) (by simp)

theorem step_of_noCycleAt {s : State} {c : SampleIdx} (hs : CoreMoves s) (h : SamplesAt s c)
    (hn : NoCycleAt s c) : step s = .next (withBitAt s c) := by
  obtain ⟨hpush, hdue⟩ := pushBit_of_noCycleAt hn
  rw [step_of_samplesAt hs h]
  simp [sampleBit, hpush, hdue, settle]

/-- Within Run the phase is what it was. -/
theorem withBitAt_of_run {s : State} (hp : s.phase = .run) (c : SampleIdx) :
    withBitAt s c = { s with
      cur := c
      win := (s.win <<< 1) ||| (BitVec.ofBool (levelAt s.chan c)).setWidth 10
      wlen := min (s.wlen + 1) 10, idxq := (c :: s.idxq).take 10 } := by
  simp only [withBitAt, hp]

/-- Settles O28: ACQUIRE samples at the first transition and `ICO` on. -/
theorem acquireSamplesTheFirstBit : Obligations.AcquireSamplesTheFirstBit := by
  intro s t c hs hp ht hover hc hn
  exact step_of_noCycleAt hs (.inl ⟨hp, t, ht, hover, hc⟩) hn

/-- Settles O29: the transition that remains lies past `CUR + SPB`, which is a 64-bit index therefore. -/
theorem freeRunningStepSamplesOneBitPeriodOn : Obligations.FreeRunningStepSamplesOneBitPeriodOn := by
  intro s hs hp hm hcross
  have hfits : s.cur.toNat + s.tim.spb.toNat < indexLimit := by
    obtain ⟨t, ht, hlt⟩ := (chanMore_iff_exists s).mp hm
    have hpast : ¬ t.toNat ≤ s.cur.toNat + s.tim.spb.toNat := fun hle => by
      rw [(chanWouldCross_iff _ s).mpr ⟨t, ht, hlt, hle⟩] at hcross
      cases hcross
    have := t.isLt
    unfold indexLimit
    omega
  have hc := toNat_advance hfits
  refine ⟨_, hc, fun hn => ?_⟩
  rw [step_of_noCycleAt hs (.inr (.inl ⟨hp, hm, hcross, hc⟩)) hn, withBitAt_of_run hp]

/-- Settles O30: the next transition, within a bit period, is a crossing. -/
theorem relockStepSamplesPastTheTransition : Obligations.RelockStepSamplesPastTheTransition := by
  intro s t c hs hp ht hle hc hn
  have hcross := chanWouldCross_of_isNextTransition ht hle
  rw [step_of_noCycleAt hs (.inr (.inr ⟨hp, hcross, t, ht, hc⟩)) hn, withBitAt_of_run hp]

/-! ### The end of a run (R68, R71, R115, R124) -/

/-- END writes `PHASE`, `PENDING` and `OUT` alone. -/
theorem endRun_eq (s : State) :
    endRun s = { s with
      phase := .done, pending := none
      out := s.out ++ (if s.params.flushPendingAtEnd then s.pending.toList else []) } := by
  cases hheld : s.pending with
  | none => simp [endRun, flushPending, hheld]
  | some p =>
    cases hflush : s.params.flushPendingAtEnd <;>
      simp [endRun, flushPending, emit, hheld, hflush]

/-- Settles O31: with no transition left the step is END. -/
theorem noTransitionLeftEndsTheRun : Obligations.NoTransitionLeftEndsTheRun := by
  intro s hs hp hnone
  rw [step_end hs hp (chanMore_eq_false hnone), endRun_eq]

/-! ### Faults (R62, R126, R130) -/

/-- A sampler's fault is the whole step, and writes `FAULT` alone (R126). -/
theorem settle_sampleBit_error (s : State) (f : ModelFault) :
    settle (sampleBit s (.error f)) = .next { s with fault := some f } := rfl

/-- Settles O32: ACQUIRE's move and a re-lock's overflow where the sum does not fit. -/
theorem movePastTheLastIndexFaults : Obligations.MovePastTheLastIndexFaults := by
  refine fun s t hs ht => ⟨fun hp hover => ?_, fun hp hle hover => ?_⟩
  · rw [step_acquire hs hp (chanMore_of_isNextTransition ht),
      (acquireMove_of_isNextTransition ht).eq_error hover, settle_sampleBit_error]
    rfl
  · rw [step_relock hs hp (chanWouldCross_of_isNextTransition ht hle),
      (relockMove_of_isNextTransition ht hp).eq_error hover, settle_sampleBit_error]

/-- A bit step raises no fault but `CursorOverflow` (R130). -/
theorem BitOutcome.cursorOverflow_of_fault {s t : State} {f : ModelFault} (h : BitOutcome s t)
    (hs : s.fault = none) (ht : t.fault = some f) : ∃ b n, f = .cursorOverflow b n := by
  cases h with
  | fault b n e => exact ⟨b, n, by simpa [e] using ht.symm⟩
  | pushed c hc hd e => simp [e, hs] at ht
  | cycled c hc u hu hd hw hf e => simp [e, hu, hs] at ht

/-- Settles O44: of all a step can do only START and a bit step record a fault. -/
theorem onlyTwoFaultsCanHappen : Obligations.OnlyTwoFaultsCanHappen := by
  intro s t f h ht
  obtain ⟨hs, hstep⟩ := stepped_of_step h
  cases hstep with
  | stayed e => simp [e, hs] at ht
  | ended hp e => simp [e, hs] at ht
  | bit hp hb => exact .inr ⟨hb.cursorOverflow_of_fault hs ht, hp⟩
  | configured c hp e => simp [e, hs] at ht
  | bound c hp hc e => simp [e, hs] at ht
  | started hm hp hc e => simp [e, hs] at ht
  | startRefused hm hp hc e => exact .inl ⟨by simpa [e] using ht.symm, hm, hp, hc⟩

end Sys2Proof.Machine
end

section
/-! SUPPORT. The statements about the symbol synchronizer: the meaning of a codeword on a full window with
idle suppression off and on, the bit that completes a window, the locking comma, and what a bit step keeps
while the core hunts and once it is locked. -/

namespace Sys2Proof.Machine

/-! ### The idle predicates and the first violation (R102, R112) -/

theorem isComma_iff (r : SymbolRecord) :
    isComma r = true ↔ r.valid = true ∧ r.isK = true ∧ r.value = 0xBC := by
  simp [isComma, and_assoc]

theorem isIdleData_iff (r : SymbolRecord) :
    isIdleData r = true ↔ r.valid = true ∧ r.isK = false ∧ (r.value = 0x4A ∨ r.value = 0xB3) := by
  simp [isIdleData, and_assoc]

theorem not_isIdleData_of_isComma {r : SymbolRecord} (h : isComma r = true) :
    isIdleData r = false := by
  obtain ⟨-, hk, -⟩ := (isComma_iff r).mp h
  simp [isIdleData, hk]

theorem rdViolation_of_first (w : Codeword) (rd : Disparity) : rdViolation w rd true = .none := by
  simp [rdViolation]

/-! ### The last step of a decode cycle under suppression (R114) -/

section Suppression

variable {s : State} (hs : s.cfg.idleDrop = true) {r : SymbolRecord}
include hs

/-- D10.2 or D19.5 drops a held K28.5 and itself; with nothing held it is emitted. -/
theorem deliver_of_isIdleData (hr : isIdleData r = true) :
    deliver r s = { s with
      pending := none
      out := if s.pending.isSome then s.out else s.out ++ [r] } := by
  obtain ⟨-, hk, -⟩ := (isIdleData_iff r).mp hr
  cases hheld : s.pending <;>
    simp [deliver, offer, holdOrEmit, emit, isComma, hs, hr, hk, hheld]

/-- Any other symbol releases what was held; a K28.5 is held in its place, and the rest are emitted. -/
theorem deliver_of_not_isIdleData (hr : isIdleData r = false) :
    deliver r s = { s with
      pending := if isComma r then some r else none
      out := s.out ++ s.pending.toList ++ (if isComma r then [] else [r]) } := by
  cases hc : isComma r <;> cases hheld : s.pending <;>
    simp [deliver, offer, holdOrEmit, emit, hs, hr, hc, hheld]

/-- A K28.5 releases what was held and is held in its place. -/
theorem deliver_of_isComma (hr : isComma r = true) :
    deliver r s = { s with pending := some r, out := s.out ++ s.pending.toList } := by
  rw [deliver_of_not_isIdleData hs (not_isIdleData_of_isComma hr), hr]
  simp

end Suppression

/-! ### The meaning of a codeword on a full window (R91 to R93, R123) -/

section CycleSpans

variable {s : State} {newest oldest : SampleIdx} (h : CycleSpans s newest oldest)
include h

/-- The record of a hit, as the statements write it (R91, R92, R111). -/
theorem cycleRecord_of_hit (w : Codeword) (v : Value) (k : Bool) (c : DisparityClass) :
    cycleRecord w (.hit v k c) s =
      { value := v, isK := k, codeword := w, dclass := c, valid := true, kind := classify true k
        violation := rdViolation w s.rd s.first, rdAtDecode := s.rd
        spanStart := if s.tim.half ≤ oldest then oldest - s.tim.half
          else Config.freeSpanStart oldest s.tim.half
        spanEnd := newest + s.tim.half } :=
  cycleRecord_of_cycleSpans h w _

/-- The record of a miss (R93, R111). -/
theorem cycleRecord_of_miss (w : Codeword) :
    cycleRecord w .miss s =
      { value := 0x00, isK := false, codeword := w, dclass := .neutral, valid := false, kind := .error
        violation := rdViolation w s.rd s.first, rdAtDecode := s.rd
        spanStart := if s.tim.half ≤ oldest then oldest - s.tim.half
          else Config.freeSpanStart oldest s.tim.half
        spanEnd := newest + s.tim.half } :=
  cycleRecord_of_cycleSpans h w _

/-- A table codeword delivers the record of its hit. -/
theorem exec_of_hit {i : Instr} {v : Value} {k : Bool} {c : DisparityClass} (hi : i.WellFormed)
    (hrom : rom (encode i) = .hit v k c) :
    exec i s =
      .next (deliver (cycleRecord (encode i) (.hit v k c) s) (afterWindow (encode i) s)) := by
  rw [exec_eq_decodeCycle i hi, hrom, decodeCycle_of_cycleSpans h]

/-- With suppression off the record of a hit is emitted at once (R113). -/
theorem exec_of_hit_of_no_suppression {i : Instr} {v : Value} {k : Bool} {c : DisparityClass}
    (hi : i.WellFormed) (hrom : rom (encode i) = .hit v k c) (hdrop : s.cfg.idleDrop = false) :
    exec i s = .next { s with
      rd := rdAfter (encode i) s.rd, first := false, win := 0, wlen := 0, idxq := []
      out := s.out ++ [
        { value := v, isK := k, codeword := encode i, dclass := c, valid := true
          kind := classify true k
          violation := rdViolation (encode i) s.rd s.first, rdAtDecode := s.rd
          spanStart := if s.tim.half ≤ oldest then oldest - s.tim.half
            else Config.freeSpanStart oldest s.tim.half
          spanEnd := newest + s.tim.half }] } := by
  rw [exec_of_hit h hi hrom, cycleRecord_of_hit h,
    deliver_of_no_suppression (s := afterWindow (encode i) s) hdrop]
  rfl

end CycleSpans

/-- Settles O9: `exec_of_hit_of_no_suppression` on a data hit. -/
theorem dataCodewordEmitsItsSymbol : Obligations.DataCodewordEmitsItsSymbol :=
  fun _ _ _ _ _ _ hi hrom hdrop h => exec_of_hit_of_no_suppression h hi hrom hdrop

/-- Settles O10: `exec_of_hit_of_no_suppression` on a control hit. -/
theorem controlCodewordEmitsItsSymbol : Obligations.ControlCodewordEmitsItsSymbol :=
  fun _ _ _ _ _ _ hi hrom hdrop h => exec_of_hit_of_no_suppression h hi hrom hdrop

/-- Settles O12: a data symbol is no K28.5, and its value says whether it is idle data. -/
theorem dataCodewordUnderSuppression : Obligations.DataCodewordUnderSuppression := by
  intro i v c s newest oldest hi hrom hdrop h r
  rw [exec_of_hit h hi hrom, cycleRecord_of_hit h]
  change Host.Outcome.next (deliver r (afterWindow (encode i) s)) = _
  by_cases hv : v = 0x4A ∨ v = 0xB3
  · have hidle : isIdleData r = true := (isIdleData_iff r).mpr ⟨rfl, rfl, hv⟩
    rw [deliver_of_isIdleData (s := afterWindow (encode i) s) hdrop hidle]
    cases hheld : s.pending with
    | none => simp [afterWindow, clearWindow, hheld]
    | some p =>
      simp only [afterWindow_pending, hheld, hv, if_true]
      rfl
  · have hidle : isIdleData r = false := by
      rw [← Bool.not_eq_true, isIdleData_iff]
      exact fun ⟨_, _, hvalue⟩ => hv hvalue
    have hcomma : isComma r = false := by simp [isComma, r]
    rw [deliver_of_not_isIdleData (s := afterWindow (encode i) s) hdrop hidle, hcomma]
    cases hheld : s.pending with
    | none => simp [afterWindow, clearWindow, hheld]
    | some p =>
      simp only [afterWindow_pending, hheld, hv, if_false]
      simp [afterWindow, clearWindow]

/-- Settles O13: a control symbol is no idle data, and its value says whether it is K28.5. -/
theorem controlCodewordUnderSuppression : Obligations.ControlCodewordUnderSuppression := by
  intro i v c s newest oldest hi hrom hdrop h r
  rw [exec_of_hit h hi hrom, cycleRecord_of_hit h]
  change Host.Outcome.next (deliver r (afterWindow (encode i) s)) = _
  have hidle : isIdleData r = false := by simp [isIdleData, r]
  have hcomma : isComma r = true ↔ v = 0xBC := by simp [isComma_iff, r]
  rw [deliver_of_not_isIdleData (s := afterWindow (encode i) s) hdrop hidle]
  simp only [hcomma]
  rfl

/-- Settles O14: an Error symbol is neither idle data nor K28.5. -/
theorem invalidCodewordUnderSuppression : Obligations.InvalidCodewordUnderSuppression := by
  intro w s newest oldest _ hdrop h
  have hexec : exec (.invalid w) s = decodeCycle w .miss s := exec_eq_entry (.invalid w) s
  rw [hexec, decodeCycle_of_cycleSpans h, cycleRecord_of_miss h,
    deliver_of_not_isIdleData (s := afterWindow w s) hdrop rfl]
  rfl

/-- Settles O15: of all a decode cycle can do, a full window whose span does not fit leaves the fault. -/
theorem spanPastTheLastIndexFaults : Obligations.SpanPastTheLastIndexFaults := by
  intro i s newest hlen hqueue hnewest hover
  have hcentre : centre s 0 = newest := by simp [centre, List.getD_eq_getElem?_getD, hnewest]
  have hfull : windowFull s = true := by simp [windowFull, hlen, hqueue]
  have hfit : spanFits (centre s 0) s.tim.half = false := by
    simp only [spanFits, hcentre, decide_eq_false_iff_not]
    unfold indexLimit
    omega
  rw [exec_eq_entry]
  obtain ⟨-, hfits, -⟩ | ⟨-, -, hcycle⟩ | ⟨hshort, -⟩ :=
    decodeCycle_cases (encode i) (Laws.RomRow.entry i) s
  · exact absurd hfits (by simp [hfit])
  · rw [hcycle, hcentre]
    rfl
  · exact absurd hfull (by simp [hshort])

/-! ### The bit that completes a window (R83, R84) -/

/-- A completed window that is a comma, or any in a locked core, leaves the core synchronized and a decode
cycle due. -/
theorem pushBit_of_cycleAt {s : State} {c : SampleIdx} (hlen : 9 ≤ s.wlen)
    (h : s.sync = .synchronized ∨ (withBitAt s c).win = 0x0FA ∨ (withBitAt s c).win = 0x305) :
    pushBit { s with cur := c, phase := .run } = { withBitAt s c with sync := .synchronized } ∧
      cycleDue { withBitAt s c with sync := .synchronized } = true := by
  have hfull : (withBitAt s c).wlen = 10 := by
    show min (s.wlen + 1) 10 = 10
    omega
  refine ⟨?_, (cycleDue_iff _).mpr ⟨hfull, rfl⟩⟩
  rw [pushBit_eq_lockOnComma]
  obtain ⟨-, -, -, hlock⟩ | ⟨hno, hsame⟩ := lockOnComma_cases (withBitAt s c)
  · exact hlock
  · cases hsync : (withBitAt s c).sync with
    | synchronized => rw [hsame, ← hsync]
    | unsynchronized =>
      have hcomma := h.resolve_left fun hs => by cases hs.symm.trans hsync
      exact absurd ⟨hsync, hfull, (isCommaPattern_iff _).mpr hcomma⟩ hno

/-- Settles O33: the bit makes a decode cycle due, and the step commits its outcome. -/
theorem completedWindowRunsItsCodeword : Obligations.CompletedWindowRunsItsCodeword := by
  intro s c hs hc hlen h
  obtain ⟨hpush, hdue⟩ := pushBit_of_cycleAt hlen h
  rw [step_of_samplesAt hs hc]
  simp [sampleBit, hpush, hdue, settle]

/-! ### The locking comma (R83, R102, R159) -/

/-- Both lock patterns stand in the table as K28.5 (R53). -/
theorem rom_of_comma {w : Codeword} (h : w = 0x0FA ∨ w = 0x305) : ∃ c, rom w = .hit 0xBC true c := by
  obtain rfl | rfl := h
  · exact ⟨.negative, Laws.RomRow.k28_5_neg rfl⟩
  · exact ⟨.positive, Laws.RomRow.k28_5_pos rfl⟩

/-- A bit that completes a window whose span fits makes the state ready for the decode cycle (R86). -/
theorem cycleReady_withBitAt {s : State} {c : SampleIdx} (hlen : 9 ≤ s.wlen)
    (hqueue : s.idxq.length = s.wlen) (hfits : c.toNat + s.tim.half.toNat < 2 ^ 64) :
    CycleReady (withBitAt s c) := by
  refine ⟨?_, ?_, hfits⟩
  · show min (s.wlen + 1) 10 = 10
    omega
  · show ((c :: s.idxq).take 10).length = 10
    rw [List.length_take, List.length_cons]
    omega

/-- A step whose bit completes the window of a synchronized core, or a comma, delivers the window's record
where the span fits (R83, R84, R123). -/
theorem step_of_cycleAt {s : State} {c : SampleIdx} (hs : CoreMoves s) (hc : SamplesAt s c)
    (hlen : 9 ≤ s.wlen) (hqueue : s.idxq.length = s.wlen)
    (h : s.sync = .synchronized ∨ (withBitAt s c).win = 0x0FA ∨ (withBitAt s c).win = 0x305)
    (hfits : c.toNat + s.tim.half.toNat < 2 ^ 64) :
    step s = .next (deliver
      (cycleRecord (withBitAt s c).win (rom (withBitAt s c).win) (withBitAt s c))
      (afterWindow (withBitAt s c).win { withBitAt s c with sync := .synchronized })) := by
  have hready : CycleReady { withBitAt s c with sync := .synchronized } :=
    cycleReady_withBitAt hlen hqueue hfits
  obtain ⟨hfull, hspan⟩ := (cycleReady_iff _).mp hready
  have hfault : (withBitAt s c).fault = none := hs.1
  rw [completedWindowRunsItsCodeword s c hs hc hlen h, exec_eq_decodeCycle _ (decode_wellFormed _),
    encode_decode_word, decodeCycle_next hfull hspan, commit_next (by simpa using hfault)]
  rfl

/-- Settles O37: the record delivered is a K28.5, and `FIRST` keeps it free of a violation. -/
theorem lockingCommaIsDecoded : Obligations.LockingCommaIsDecoded := by
  intro s c hs hc _ hlen hqueue hfirst hcomma hfits
  obtain ⟨k, hrom⟩ := rom_of_comma hcomma
  have hstep := step_of_cycleAt hs hc hlen hqueue (.inr hcomma) hfits
  rw [hrom] at hstep
  refine ⟨_, cycleRecord _ (.hit 0xBC true k) (withBitAt s c), hstep, by simp, by simp, by simp, by simp,
    by simp [withBitAt], by simp [withBitAt], fun hoff => ?_, fun hon => ?_, rfl, rfl, rfl, ?_, rfl, rfl⟩
  · rw [deliver_of_no_suppression (by exact hoff)]
    exact ⟨rfl, rfl⟩
  · rw [deliver_of_isComma (by exact hon) (by rfl)]
    exact ⟨rfl, rfl⟩
  · show rdViolation _ s.rd s.first = .none
    rw [hfirst, rdViolation_of_first]

/-! ### Hunting and the cadence of a locked core (R82, R84, R85) -/

/-- A bit step after which the core still hunts has run no decode cycle. -/
theorem BitOutcome.emits_nothing_of_unsynchronized {s t : State} (h : BitOutcome s t)
    (ht : t.sync = .unsynchronized) :
    t.out = s.out ∧ t.pending = s.pending ∧ t.rd = s.rd ∧ t.first = s.first := by
  cases h with
  | fault b n e => simp [e]
  | pushed c hc hd e => simp [e]
  | cycled c hc u hu hd hw hf e =>
    have hsync : t.sync = .synchronized := by
      rw [e, deliver_sync, afterWindow_sync]
      exact ((cycleDue_iff u).mp hd).2
    exact absurd (ht.symm.trans hsync) (by simp)

/-- Settles O35: a bit step that leaves the core hunting emits nothing, END ends the run, and START needs
a move of the host. -/
theorem huntingEmitsNothing : Obligations.HuntingEmitsNothing := by
  intro s t h hhost _ ht hp
  obtain ⟨-, hstep⟩ := stepped_of_step h
  cases hstep with
  | stayed e => simp [e]
  | ended hr e => simp [e] at hp
  | bit hr hb => exact hb.emits_nothing_of_unsynchronized ht
  | configured c hr e => simp [e]
  | bound c hr hc e => simp [e]
  | started hm hr hc e => simp [hhost] at hm
  | startRefused hm hr hc e => simp [e]

/-- With no host move to come, a step is the core's. -/
theorem coreStepped_of_step {s t : State} (hs : CoreMoves s) (h : step s = .next t) :
    CoreStepped s t :=
  coreStepped_of_coreFetch hs.1 (by rw [← step_of_coreMoves hs, h])

/-- In Run the core's step is END or a bit step (R69 to R71, R122). -/
theorem CoreStepped.ended_or_bitOutcome {s t : State} (h : CoreStepped s t) (hp : s.phase = .run) :
    t = endRun s ∨ BitOutcome s t := by
  cases h with
  | rested hr e => simp [atRest, hp] at hr
  | ended hr hm e => exact .inl e
  | acquired hq base hn hb => exact absurd (hp.symm.trans hq) (by simp)
  | freeRan hq hm hc hb => exact .inr (bitOutcome_of_bitStepped (BitVec.le_refl _) hb)
  | relocked hq hc base hn hb =>
    obtain ⟨-, hlt, -⟩ := nextTransition_eq_some hn
    exact .inr (bitOutcome_of_bitStepped (BitVec.le_of_lt hlt) hb)

/-- A locked core's bit step without a fault: a bit short of a full window changes the window alone, the
tenth runs a decode cycle, which empties it. -/
theorem BitOutcome.cadence {s t : State} (h : BitOutcome s t) (hs : s.sync = .synchronized)
    (hshort : s.wlen < 10) (ht : t.fault = none) :
    t.wlen = (if s.wlen = 9 then 0 else s.wlen + 1) ∧
      (s.wlen ≠ 9 → t.out = s.out ∧ t.pending = s.pending ∧ t.rd = s.rd) := by
  cases h with
  | fault b n e => simp [e] at ht
  | pushed c hc hd e =>
    have hne : s.wlen ≠ 9 := fun hnine => by
      have hdue : cycleDue (pushBit { s with cur := c, phase := .run }) = true :=
        (cycleDue_iff _).mpr ⟨by simp [hnine], pushBit_sync_of_synchronized hs⟩
      exact absurd hdue (by simp [hd])
    rw [if_neg hne, e]
    exact ⟨by rw [pushBit_wlen]; exact Nat.min_eq_left hshort, fun _ => by simp⟩
  | cycled c hc u hu hd hw hf e =>
    have hnine : s.wlen = 9 := by
      have hfull : min (s.wlen + 1) 10 = 10 := by simpa [hu] using ((cycleDue_iff u).mp hd).1
      omega
    rw [if_pos hnine, e]
    exact ⟨by simp, fun hne => absurd hnine hne⟩

/-- Settles O38: in Run only END ends the run, and a bit step keeps the cadence. -/
theorem lockedCadenceIsEveryTenthBit : Obligations.LockedCadenceIsEveryTenthBit := by
  intro s t hinv hs hsync h hp ht hfault
  obtain e | hb := (coreStepped_of_step hs h).ended_or_bitOutcome hp
  · simp [e] at ht
  · exact ⟨hb.keeps_sync hsync, hb.cadence hsync (hinv.consumed hsync) hfault⟩

end Sys2Proof.Machine
end

section
/-! SUPPORT. The statements about the lookup of a codeword: what `lookup` returns, the table's construction
check, and the soundness of every record emitted or held. -/

namespace Sys2Proof.Machine

/-! ### What `lookup` returns (R90, R93) -/

theorem lookup_of_hit {w : Codeword} {v : Value} {k : Bool} {c : DisparityClass}
    (h : rom w = .hit v k c) : lookup w = { value := v, isK := k, dclass := c, valid := true } := by
  rw [lookup, h, lookupFields]

theorem lookup_of_miss {w : Codeword} (h : rom w = .miss) :
    lookup w = { value := 0x00, isK := false, dclass := .neutral, valid := false } := by
  rw [lookup, h, lookupFields]

/-- Settles O8: `lookup` reads the table's entry alone. -/
theorem lookupReturnsTheEntry : Obligations.LookupReturnsTheEntry :=
  ⟨fun _ _ _ _ => lookup_of_hit, fun _ => lookup_of_miss⟩

/-! ### The table's construction check (R96, R130) -/

/-- A row's K flag and value make up its 9-bit value (R23, R95). -/
theorem value9_isK_value (r : ListingRow) : value9 r.isK r.value = r.value9 := by
  ext i hi
  rw [value9, ← BitVec.getLsbD_eq_getElem, BitVec.getLsbD_append, ← BitVec.getLsbD_eq_getElem]
  split
  next hlow => simp [ListingRow.value, hlow]
  next hhigh =>
    obtain rfl : i = 8 := by omega
    simp [ListingRow.isK]

/-- Every value the listing holds has a name (R95). -/
theorem symbolName_isSome {r : ListingRow} (hr : r ∈ listing) :
    (symbolName r.value9).isSome = true := by
  have hany : (listing.any fun q => q.value9 == r.value9) = true :=
    List.any_eq_true.mpr ⟨r, hr, by simp⟩
  rw [symbolName, if_pos hany]
  rfl

/-- Every codeword passes the check of R96: a hit stands in a row of the listing, whose value has a name and
whose forms are the constructed ones. -/
theorem entryConsistent_eq_true (w : Codeword) : entryConsistent w = true := by
  cases h : rom w with
  | miss => simp only [entryConsistent, h]
  | hit v k c =>
    have hname : (symbolName (value9 k v)).isSome = true := by
      obtain ⟨r, hr, -, -, rfl, rfl, -⟩ := exists_form_of_rom_hit h
      rw [value9_isK_value r]
      exact symbolName_isSome hr
    have hforms : (classColumns c).all
        (fun rd => buildCodeword k (valueX v).toNat (valueY v).toNat rd == w) = true :=
      List.all_eq_true.mpr fun rd hrd =>
        beq_iff_eq.mpr ((tableHoldsOnlyConstructedCodewords w v k c h).1 rd hrd).symm
    simp only [entryConsistent, h]
    exact Bool.and_eq_true_iff.mpr ⟨hname, hforms⟩

theorem firstInconsistent_eq_none : firstInconsistent = none :=
  List.find?_eq_none.mpr fun w _ => by simp [entryConsistent_eq_true w]

/-- Settles O7: no codeword fails the check, so the created machine holds no fault. -/
theorem tableConstructionRaisesNoFault : Obligations.TableConstructionRaisesNoFault := by
  unfold Obligations.TableConstructionRaisesNoFault createModel
  simp only [firstInconsistent_eq_none]

/-! ### Sound records (R101, R110, R111) -/

/-- A ones violation is reported of more than five ones, seen at `RD` positive (R101). -/
theorem ones_of_rdViolation_onesWhilePositive {w : Codeword} {rd : Disparity} {first : Bool}
    (h : rdViolation w rd first = .onesWhilePositive) : 5 < ones w ∧ rd = .positive := by
  unfold rdViolation at h
  split_ifs at h with _ _ hones
  exact hones.2

/-- A zeros violation is reported of fewer than five ones, seen at `RD` negative (R101). -/
theorem ones_of_rdViolation_zerosWhileNegative {w : Codeword} {rd : Disparity} {first : Bool}
    (h : rdViolation w rd first = .zerosWhileNegative) : ones w < 5 ∧ rd = .negative := by
  unfold rdViolation at h
  split_ifs at h with _ _ _ hzeros
  exact hzeros.2

/-- The record of a decode cycle that reads the table at its codeword is sound (R111, R123). -/
theorem recordOk_cycleRecord (w : Codeword) (s : State) : RecordOk (cycleRecord w (rom w) s) where
  table := rfl
  kind := rfl
  onesSide h := by
    rw [← ones_eq_bitCount]
    exact ones_of_rdViolation_onesWhilePositive h
  zerosSide h := by
    rw [← ones_eq_bitCount]
    exact ones_of_rdViolation_zerosWhileNegative h

namespace OutputInv

/-- The invariant reads `OUT` and `PENDING` alone. -/
theorem of_same {s t : State} (h : OutputInv s) (hout : t.out = s.out)
    (hpending : t.pending = s.pending) : OutputInv t := by
  rw [OutputInv, hout, hpending]
  exact h

/-- Nothing emitted and nothing held meets the invariant. -/
theorem of_empty {s : State} (hout : s.out = []) (hpending : s.pending = none) : OutputInv s := by
  simp [OutputInv, hout, hpending]

/-- `deliver` adds its own record at most. -/
theorem after_deliver {s : State} (h : OutputInv s) {r : SymbolRecord} (hr : RecordOk r) :
    OutputInv (deliver r s) := by
  intro x hx
  obtain rfl | hx := mem_of_mem_deliver hx
  · exact hr
  · exact h x hx

theorem after_endRun {s : State} (h : OutputInv s) : OutputInv (endRun s) :=
  fun x hx => h x (mem_of_mem_endRun hx)

theorem after_bitOutcome {s t : State} (h : OutputInv s) (hb : BitOutcome s t) : OutputInv t := by
  cases hb with
  | fault b n ht => subst ht; exact h.of_same rfl rfl
  | pushed c hc hd ht => subst ht; exact h.of_same (by simp) (by simp)
  | cycled c hc u hu hd hw hf ht =>
    have hcleared : OutputInv (afterWindow u.win u) := h.of_same (by simp [hu]) (by simp [hu])
    exact ht ▸ hcleared.after_deliver (recordOk_cycleRecord u.win u)

end OutputInv

/-- Settles O58: only a decode cycle makes a record, and it makes it of the table's entry; END and START move
or drop records, and the other moves touch none. -/
theorem stepKeepsTheOutputSound : Obligations.StepKeepsTheOutputSound := by
  intro s t h hs
  have h' : OutputInv { s with host := s.host.tail } := h.of_same rfl rfl
  obtain ⟨-, hstep⟩ := stepped_of_step hs
  cases hstep with
  | stayed ht => exact ht ▸ h'
  | ended hp ht => exact ht ▸ h'.after_endRun
  | bit hp hb => exact h'.after_bitOutcome hb
  | configured c hp ht => subst ht; exact h.of_same rfl rfl
  | bound c hp hc ht => subst ht; exact h.of_same rfl rfl
  | started hm hp hc ht => subst ht; exact .of_empty rfl rfl
  | startRefused hm hp hc ht => subst ht; exact h.of_same rfl rfl

end Sys2Proof.Machine
end

section
/-! SUPPORT. The statements about the running disparity: what `UpdateRD` does with more, fewer and just five
ones, and the records that a decode cycle emits or holds. -/

namespace Sys2Proof.Machine

/-! ### The cases of `UpdateRD` (R101, R102) -/

section UpdateRD

variable {w : Codeword} (rd : Disparity) (first : Bool)

theorem rdAfter_of_more_ones (h : 5 < bitCount w) : rdAfter w rd = .positive := by
  rw [← ones_eq_bitCount] at h
  cases rd <;> simp [rdAfter, h, Nat.lt_asymm h]

theorem rdAfter_of_fewer_ones (h : bitCount w < 5) : rdAfter w rd = .negative := by
  rw [← ones_eq_bitCount] at h
  cases rd <;> simp [rdAfter, h, Nat.le_of_lt h]

theorem rdAfter_of_five_ones (h : bitCount w = 5) : rdAfter w rd = rd := by
  rw [← ones_eq_bitCount] at h
  simp [rdAfter, h]

/-- More than five ones violate where `RD` is positive already. -/
theorem rdViolation_of_more_ones (h : 5 < bitCount w) :
    rdViolation w rd first =
      if rd = .negative ∨ first = true then .none else .onesWhilePositive := by
  rw [← ones_eq_bitCount] at h
  cases rd <;> cases first <;> simp [rdViolation, h, Nat.lt_asymm h]

/-- Fewer than five ones violate where `RD` is negative already. -/
theorem rdViolation_of_fewer_ones (h : bitCount w < 5) :
    rdViolation w rd first =
      if rd = .positive ∨ first = true then .none else .zerosWhileNegative := by
  rw [← ones_eq_bitCount] at h
  cases rd <;> cases first <;> simp [rdViolation, h, Nat.lt_asymm h]

theorem rdViolation_of_five_ones (h : bitCount w = 5) : rdViolation w rd first = .none := by
  rw [← ones_eq_bitCount] at h
  simp [rdViolation, h]

end UpdateRD

section SameSide

variable {w w' : Codeword} (hmore : 5 < bitCount w ↔ 5 < bitCount w')
  (hfewer : bitCount w < 5 ↔ bitCount w' < 5)
include hmore hfewer

/-- `UpdateRD` reads of the codeword on which side of 5 its ones count lies (R105). -/
theorem rdAfter_eq_of_same_side (rd : Disparity) : rdAfter w rd = rdAfter w' rd := by
  simp only [rdAfter, ones_eq_bitCount, gt_iff_lt, hmore, hfewer]

theorem rdViolation_eq_of_same_side (rd : Disparity) (first : Bool) :
    rdViolation w rd first = rdViolation w' rd first := by
  simp only [rdViolation, ones_eq_bitCount, gt_iff_lt, hmore, hfewer]

end SameSide

/-! ### The record of a decode cycle, emitted or held (R113, R114) -/

/-- Every codeword's meaning on a full window whose span fits: it delivers the record of its cycle (R123). -/
theorem exec_of_cycleReady {i : Instr} {s : State} (hi : i.WellFormed) (h : CycleReady s) :
    exec i s =
      .next (deliver (cycleRecord (encode i) (rom (encode i)) s) (afterWindow (encode i) s)) := by
  obtain ⟨hfull, hfits⟩ := (cycleReady_iff s).mp h
  rw [exec_eq_decodeCycle i hi, decodeCycle_next hfull hfits]

@[simp] theorem cycleRecord_violation (w : Codeword) (e : RomEntry) (s : State) :
    (cycleRecord w e s).violation = rdViolation w s.rd s.first := rfl

@[simp] theorem cycleRecord_rdAtDecode (w : Codeword) (e : RomEntry) (s : State) :
    (cycleRecord w e s).rdAtDecode = s.rd := rfl

/-- With nothing held a delivered record is emitted or held, and nothing else is. -/
theorem deliver_of_nothing_held {s : State} (h : s.pending = none) (r : SymbolRecord) :
    (deliver r s).out ++ (deliver r s).pending.toList = s.out ++ [r] := by
  obtain ⟨-, e⟩ | ⟨-, -, hheld, -⟩ | ⟨-, -, -, e⟩ | ⟨-, -, -, e⟩ := deliver_cases r s
  · simp [e, h]
  · simp [h] at hheld
  · simp [e, h]
  · simp [e, h]

/-- A record that a delivery adds to `OUT` or leaves in `PENDING` is the delivered one or was held. -/
theorem eq_or_held_of_mem_delivered {r x : SymbolRecord} {s : State}
    (hx : x ∈ (deliver r s).out.drop s.out.length ∨ x ∈ (deliver r s).pending) :
    x = r ∨ x ∈ s.pending := by
  obtain ⟨-, e⟩ | ⟨-, -, -, e⟩ | ⟨-, -, -, e⟩ | ⟨-, -, -, e⟩ := deliver_cases r s
  · simpa [e] using hx
  · simp [e] at hx
  · simpa [e, or_comm, eq_comm] using hx
  · simpa [e, or_comm] using hx

/-- Settles O20: the record is the one the codeword's cycle delivers, and each side of 5 has its case of
`UpdateRD`. -/
theorem disparityUpdateCases : Obligations.DisparityUpdateCases := by
  intro i s hi h
  refine ⟨_, cycleRecord (encode i) (rom (encode i)) s, exec_of_cycleReady hi h, rfl,
    fun hoff => ?emitted, fun _ hheld => ?delivered, ?updateRD⟩
  case emitted => rw [deliver_of_no_suppression (s := afterWindow (encode i) s) hoff, afterWindow_out]
  case delivered => exact deliver_of_nothing_held (s := afterWindow (encode i) s) hheld _
  case updateRD =>
    simp only [deliver_rd, afterWindow_rd, cycleRecord_violation]
    refine ⟨fun hn hrd => ?_, fun hn hrd => ?_, fun hn hrd => ?_, fun hn hrd => ?_, fun hn => ?_⟩
    · simp [rdAfter_of_more_ones _ hn, rdViolation_of_more_ones _ _ hn, hrd]
    · simp [rdAfter_of_fewer_ones _ hn, rdViolation_of_fewer_ones _ _ hn, hrd]
    · simp [rdAfter_of_more_ones _ hn, rdViolation_of_more_ones _ _ hn, hrd]
    · simp [rdAfter_of_fewer_ones _ hn, rdViolation_of_fewer_ones _ _ hn, hrd]
    · exact ⟨rdAfter_of_five_ones _ hn, rdViolation_of_five_ones _ _ hn⟩

/-- Settles O21: both cycles read of their codewords the side of 5 alone, and a record that was not held
before is the delivered one. -/
theorem disparityDependsOnOnesCountsAlone : Obligations.DisparityDependsOnOnesCountsAlone := by
  intro i j s u hi hj hmore hfewer hrd hfirst hs hu
  refine ⟨_, _, exec_of_cycleReady hi hs, exec_of_cycleReady hj hu, ?rd, by simp, fun r hr hnew => ?new⟩
  case rd => simp [hrd, rdAfter_eq_of_same_side hmore hfewer]
  case new =>
    obtain rfl | hheld := eq_or_held_of_mem_delivered (s := afterWindow (encode i) s) (x := r)
      (by simpa [or_comm] using hr)
    · rw [cycleRecord_violation, rdViolation_eq_of_same_side hmore hfewer, hrd, hfirst]
    · exact absurd hheld hnew

/-- Settles O22: the only record emitted or held is the delivered one, and `FIRST` keeps it free of a
violation. -/
theorem firstWindowIsNeverAViolation : Obligations.FirstWindowIsNeverAViolation := by
  intro i s hi hfirst hheld h
  refine ⟨_, exec_of_cycleReady hi h, by simp, fun r hr => ?_⟩
  obtain rfl | hmem := eq_or_held_of_mem_delivered (s := afterWindow (encode i) s) (x := r)
    (by simpa using hr)
  · rw [cycleRecord_violation, hfirst, rdViolation_of_first]
  · simp [hheld] at hmem

end Sys2Proof.Machine
end

section
/-! SUPPORT. The statements about the symbol classifier: the kind of a symbol, an idle ordered set under
suppression, what a codeword leaves whether or not suppression is on, and the end of a run by STOP. -/

namespace Sys2Proof.Machine

/-- Settles O23: the three branches of `Classify`. -/
theorem classifyGivesTheKind : Obligations.ClassifyGivesTheKind := ⟨fun _ => rfl, rfl, rfl⟩

/-- Settles O49: in Acquire and Run the machine is not at rest, so STOP is END. -/
theorem stopEndsTheRun : Obligations.StopEndsTheRun := by
  intro s ms hf hh hp
  have hr : atRest { s with host := ms } = false := by
    obtain hp | hp := hp <;> simp [atRest, hp]
  have hstop : settle (hostFetch .stop { s with host := ms }) = stop { s with host := ms } := rfl
  rw [step_of_host_cons hf hh, hstop, stop, hr, endRun_eq]
  rfl

/-! ### What a codeword leaves whether or not suppression is on (R117) -/

/-- A decode cycle with a next state has its span fit, and leaves `RD` to `UpdateRD` and the window clear;
or its span does not fit, and it writes `FAULT` alone. -/
theorem decodeCycle_leaves {w : Codeword} {e : RomEntry} {s t : State}
    (h : decodeCycle w e s = .next t) :
    (spanFits (centre s 0) s.tim.half = true ∧ t.rd = rdAfter w s.rd ∧ t.first = false ∧
      t.win = 0 ∧ t.wlen = 0 ∧ t.idxq = [] ∧ t.fault = s.fault) ∨
    (spanFits (centre s 0) s.tim.half = false ∧
      t = setFault (.cursorOverflow (centre s 0) s.tim.half.toNat) s) := by
  obtain ⟨-, hfits, hcycle⟩ | ⟨-, hfits, hcycle⟩ | ⟨-, hcycle⟩ := decodeCycle_cases w e s <;>
    rw [hcycle] at h <;> cases h
  · exact .inl ⟨hfits, by simp⟩
  · exact .inr ⟨hfits, rfl⟩

/-- Settles O19: whether the span fits, and what `decodeCycle_leaves` lists, read neither `CFG_IDLE_DROP`
nor `PENDING`. -/
theorem suppressionDoesNotTouchTheDisparity : Obligations.SuppressionDoesNotTouchTheDisparity := by
  intro i s t u b p ht hu
  rw [exec_eq_entry] at ht hu
  obtain ⟨hfits, hrd, hfirst, hwin, hwlen, hidxq, hfault⟩ | ⟨hmisfit, rfl⟩ := decodeCycle_leaves ht <;>
    obtain ⟨hfits', hrd', hfirst', hwin', hwlen', hidxq', hfault'⟩ | ⟨hmisfit', rfl⟩ :=
      decodeCycle_leaves hu
  · exact ⟨hrd.trans hrd'.symm, hfirst.trans hfirst'.symm, hwin.trans hwin'.symm,
      hwlen.trans hwlen'.symm, hidxq.trans hidxq'.symm, hfault.trans hfault'.symm⟩
  · exact absurd (hfits.symm.trans hmisfit') (by decide)
  · exact absurd (hmisfit.symm.trans hfits') (by decide)
  · exact ⟨rfl, rfl, rfl, rfl, rfl, rfl⟩

/-! ### An idle ordered set (R112, R114) -/

section IdlePair

variable {s : State} (h : CycleReady s) (hdrop : s.cfg.idleDrop = true)
include h hdrop

/-- A K28.5 releases what was held, and its record is held in its place. -/
theorem exec_comma_of_suppression {k : Instr} (hk : k = .k28_5_neg ∨ k = .k28_5_pos) :
    ∃ r, exec k s = .next { afterWindow (encode k) s with
      pending := some r, out := s.out ++ s.pending.toList } := by
  have hcode : encode k = 0x0FA ∨ encode k = 0x305 := hk.imp (congrArg encode) (congrArg encode)
  obtain ⟨c, hrom⟩ := rom_of_comma hcode
  have hwf : k.WellFormed := by obtain rfl | rfl := hk <;> rfl
  refine ⟨cycleRecord (encode k) (rom (encode k)) s, ?_⟩
  have hcomma : isComma (cycleRecord (encode k) (rom (encode k)) s) = true := by
    rw [hrom]; rfl
  rw [exec_of_cycleReady hwf h, deliver_of_isComma (s := afterWindow (encode k) s) hdrop hcomma]
  simp

/-- D10.2 or D19.5 drops a held K28.5 and itself. -/
theorem exec_idleData_of_held {d : Instr} (hd : d = .d10_2 ∨ d = .d19_5)
    (hheld : s.pending.isSome = true) :
    exec d s = .next { afterWindow (encode d) s with pending := none } := by
  have hwf : d.WellFormed := by obtain rfl | rfl := hd <;> rfl
  have hidle : isIdleData (cycleRecord (encode d) (rom (encode d)) s) = true := by
    obtain rfl | rfl := hd
    · rw [Laws.RomRow.d10_2 rfl]; rfl
    · rw [Laws.RomRow.d19_5 rfl]; rfl
  rw [exec_of_cycleReady hwf h, deliver_of_isIdleData (s := afterWindow (encode d) s) hdrop hidle]
  simp [hheld]

end IdlePair

/-- D10.2 and D19.5 are balanced, so they keep `RD` (R101). -/
theorem rdAfter_idleData {d : Instr} (hd : d = .d10_2 ∨ d = .d19_5) (rd : Disparity) :
    rdAfter (encode d) rd = rd :=
  rdAfter_of_five_ones rd (by obtain rfl | rfl := hd <;> decide)

/-- Settles O18: the K28.5 is held, the data symbol drops it and itself, and keeps `RD`. -/
theorem idlePairLeavesNoTrace : Obligations.IdlePairLeavesNoTrace := by
  intro k d s hk hd hdrop hheld h
  obtain ⟨r, hfirst⟩ := exec_comma_of_suppression h hdrop hk
  refine ⟨_, hfirst, by simp [hheld], fun cur win wlen idxq hready => ?_⟩
  refine ⟨_, exec_idleData_of_held hready hdrop hd rfl, ?_, rfl, ?_⟩
  · simp [hheld]
  · rw [afterWindow_rd, rdAfter_idleData hd, afterWindow_rd]

end Sys2Proof.Machine
end

section
/-! SUPPORT. The statements about the decode run: what every codeword's decode cycle leaves unchanged, the moves
that are not enabled, that a machine without a fault steps, and that the cursor's advance ends every run. -/

namespace Sys2Proof.Machine

/-! ### The frame of a decode cycle (R123) -/

/-- Settles O16: of all a decode cycle can do, only the stop leaves the window short. -/
theorem cycleWithoutAFullWindowStops : Obligations.CycleWithoutAFullWindowStops := by
  intro i s hshort
  have hnot : windowFull s = false := by
    rw [windowFull, Bool.and_eq_false_iff, beq_eq_false_iff_ne, beq_eq_false_iff_ne]
    exact hshort
  rw [exec_eq_entry]
  obtain ⟨hfull, -⟩ | ⟨hfull, -⟩ | ⟨-, hstop⟩ :=
    decodeCycle_cases (encode i) (Laws.RomRow.entry i) s
  · exact absurd (hfull.symm.trans hnot) (by decide)
  · exact absurd (hfull.symm.trans hnot) (by decide)
  · exact hstop

/-- A decode cycle, whether it delivers its record or raises a fault, leaves everything outside the window,
the disparity and the output as it was (R14, R40). -/
theorem decodeCycle_frame {w : Codeword} {e : RomEntry} {s t : State}
    (h : decodeCycle w e s = .next t) :
    t.cfg = s.cfg ∧ t.tim = s.tim ∧ t.phase = s.phase ∧ t.cur = s.cur ∧ t.sync = s.sync ∧
      t.params = s.params ∧ t.chan = s.chan ∧ t.host = s.host := by
  obtain ⟨-, -, hcycle⟩ | ⟨-, -, hcycle⟩ | ⟨-, hcycle⟩ := decodeCycle_cases w e s <;>
    rw [hcycle] at h <;> cases h
  · simp
  · exact ⟨rfl, rfl, rfl, rfl, rfl, rfl, rfl, rfl⟩

/-- Settles O17: the frame is the decode cycle's, and a cycle that runs to its end delivers its record to
the state with the window cleared. -/
theorem codewordFrame : Obligations.CodewordFrame := by
  intro i s t hi h
  refine ⟨decodeCycle_frame (exec_eq_decodeCycle i hi s ▸ h), fun _ hready => ?_⟩
  rw [exec_of_cycleReady hi hready] at h
  cases h
  have hout := deliver_out_appended (cycleRecord (encode i) (rom (encode i)) s)
    (afterWindow (encode i) s)
  exact ⟨by simp, by simp, by simp, by simp, by simp, hout⟩

/-! ### Moves that are not enabled, and rest (R126, R127, R140) -/

/-- STOP at rest, and any other move but `pass` within a run, is not enabled (R127). -/
theorem hostFetch_of_not_enabled {m : HostMove} {s : State}
    (h : (m = .stop ∧ atRest s = true) ∨ (m ≠ .stop ∧ m ≠ .pass ∧ atRest s = false)) :
    hostFetch m s = .settled (.next s) := by
  obtain ⟨rfl, hr⟩ | ⟨hstop, hpass, hr⟩ := h
  · simp [hostFetch, stop, hr]
  · have hnot : atRest s ≠ true := by simp [hr]
    obtain e | ⟨_, hrest, -⟩ | ⟨_, hrest, -⟩ | ⟨-, hrest, -⟩ | ⟨-, hrest, -⟩ | ⟨hm, -⟩ :=
      hostFetch_cases m s hpass
    · exact e
    · exact absurd hrest hnot
    · exact absurd hrest hnot
    · exact absurd hrest hnot
    · exact absurd hrest hnot
    · exact absurd hm hstop

theorem atRest_eq_false_iff (s : State) :
    atRest s = false ↔ s.phase = .acquire ∨ s.phase = .run := by
  cases hp : s.phase <;> simp [atRest, hp]

/-- Settles O50: the phases of each disjunct are rest and a run. -/
theorem movesNotEnabledHaveNoEffect : Obligations.MovesNotEnabledHaveNoEffect := by
  intro s m ms hf hh hm
  rw [step_of_host_cons hf hh, hostFetch_of_not_enabled (hm.imp ?stop ?other)]
  · rfl
  case stop => exact fun ⟨hstop, hp⟩ => ⟨hstop, (atRest_iff _).mpr hp⟩
  case other => exact fun ⟨hstop, hpass, hp⟩ => ⟨hstop, hpass, (atRest_eq_false_iff _).mpr hp⟩

/-- Settles O52: in both phases of rest the core fetches nothing. -/
theorem restingCoreKeepsItsState : Obligations.RestingCoreKeepsItsState := by
  intro s hs hp
  rw [step_of_coreMoves hs, coreFetch]
  obtain hp | hp := hp <;> rw [hp] <;> rfl

/-! ### What a faulting step writes (R126, R131) -/

/-- A bit step that records a fault falls back to the state before it, and writes nothing else. -/
theorem BitOutcome.eq_of_fault {s t : State} (h : BitOutcome s t) (hs : s.fault = none)
    (ht : t.fault ≠ none) : t = { s with fault := t.fault } := by
  cases h with
  | fault b n e => rw [e]; rfl
  | pushed c hc hd e => exact absurd (by simp [e, hs]) ht
  | cycled c hc u hu hd hw hf e => exact absurd (by simp [e, hu, hs]) ht

/-- Settles O43: only a bit step and START record a fault, and each falls back to the state before it. -/
theorem faultingStepWritesOnlyTheFault : Obligations.FaultingStepWritesOnlyTheFault := by
  intro s t h ht
  obtain ⟨hs, hstep⟩ := stepped_of_step h
  cases hstep with
  | stayed e => exact absurd (by simp [e, hs]) ht
  | ended hp e => exact absurd (by simp [e, hs]) ht
  | bit hp hb => exact hb.eq_of_fault hs ht
  | configured c hp e => exact absurd (by simp [e, hs]) ht
  | bound c hp hc e => exact absurd (by simp [e, hs]) ht
  | started hm hp hc e => exact absurd (by simp [e, hs]) ht
  | startRefused hm hp hc e => rw [e]; rfl

/-! ### Progress (R122, R126) -/

theorem safe_next (t : State) : Safe (.next t) := ⟨t, rfl⟩

/-- Committing an outcome that has a next state leaves one: the outcome's, or the fault's. -/
theorem safe_commit {base : State} {o : Result} (h : Safe o) : Safe (commit base o) := by
  obtain ⟨t, rfl⟩ := h
  cases hf : t.fault with
  | none => rw [commit_next hf]; exact safe_next _
  | some f => rw [commit_fault hf]; exact safe_next _

/-- Only a window that is not full stops a decode cycle (log entry 11). -/
theorem safe_decodeCycle {s : State} (hw : windowFull s = true) (w : Codeword) (e : RomEntry) :
    Safe (decodeCycle w e s) := by
  obtain ⟨-, -, h⟩ | ⟨-, -, h⟩ | ⟨hshort, -⟩ := decodeCycle_cases w e s
  · rw [h]; exact safe_next _
  · rw [h]; exact safe_next _
  · exact absurd (hw.symm.trans hshort) (by decide)

namespace WindowInv

variable {s : State} (h : WindowInv s)
include h

/-- Where a decode cycle is due the index queue is full with the window: both took the same bits (R80,
R81). -/
theorem windowFull_of_cycleDue (hd : cycleDue (pushBit s) = true) :
    windowFull (pushBit s) = true := by
  obtain ⟨hfull, -⟩ := (cycleDue_iff _).mp hd
  have hqueue : (pushBit s).idxq.length = (pushBit s).wlen := by
    rw [pushBit_idxq, pushBit_wlen, List.length_take, List.length_cons, h.queue, Nat.min_comm]
  rw [windowFull, hqueue, hfull]
  rfl

theorem safe_sampleBit {base : SampleIdx} {n : Nat} {r : Except ModelFault State}
    (hr : SamplerMove s base n r) : Safe (settle (sampleBit s r)) := by
  obtain ⟨-, rfl⟩ | ⟨-, rfl⟩ := hr
  · have hmoved : WindowInv { s with cur := base + BitVec.ofNat 64 n, phase := .run } :=
      h.of_same rfl rfl rfl rfl rfl
    rw [sampleBit]
    split
    next hd =>
      rw [settle, exec_eq_entry]
      exact safe_commit (safe_decodeCycle (hmoved.windowFull_of_cycleDue hd) _ _)
    next => exact safe_next _
  · exact safe_next _

/-- Each branch of the core's step has a next state (R122). -/
theorem safe_coreFetch : Safe (settle (coreFetch s)) := by
  unfold coreFetch
  split
  next => exact safe_next _
  next => exact safe_next _
  next =>
    split
    next hm =>
      obtain ⟨_, -, hmove⟩ := acquireMove_cases hm
      exact h.safe_sampleBit hmove
    next => exact safe_next _
  next hp =>
    split
    next hm =>
      split
      next =>
        obtain ⟨_, -, hmove⟩ := relockMove_cases hp hm
        exact h.safe_sampleBit hmove
      next => exact h.safe_sampleBit (freeRunMove_cases hp)
    next => exact safe_next _

theorem safe_hostFetch (m : HostMove) : Safe (settle (hostFetch m s)) := by
  by_cases hm : m = .pass
  · rw [hm]
    exact h.safe_coreFetch
  · obtain e | ⟨_, -, e⟩ | ⟨_, -, -, e⟩ | ⟨-, -, -, e⟩ | ⟨-, -, -, e⟩ | ⟨-, -, e⟩ :=
      hostFetch_cases m s hm <;> rw [e] <;> exact safe_next _

end WindowInv

/-- Settles O59: the step is the core's or the host's next move, and either has a next state. -/
theorem unfaultedMachineAlwaysSteps : Obligations.UnfaultedMachineAlwaysSteps := by
  intro s h hf
  cases hh : s.host with
  | nil =>
    rw [step_of_coreMoves ⟨hf, hh⟩]
    exact h.safe_coreFetch
  | cons m ms =>
    rw [step_of_host_cons hf hh]
    have h' : WindowInv { s with host := ms } := h.of_same rfl rfl rfl rfl rfl
    exact h'.safe_hostFetch m

/-! ### The end of a run (R72, R128) -/

/-- A bit step faults, or leaves the core in Run with the cursor at the index its move ends at. -/
theorem BitStepped.fault_or_run {s t : State} {base : SampleIdx} {n : Nat}
    (h : BitStepped s base n t) :
    t.fault ≠ none ∨
      t.phase = .run ∧ t.fault = s.fault ∧ t.host = s.host ∧ t.cur.toNat = base.toNat + n := by
  cases h with
  | moveOverflow hge ht => exact .inl (by simp [ht])
  | hunted s1 hlt hs hd ht => subst hs; exact .inr (by simp [ht, toNat_advance hlt])
  | cycled s1 hlt hs hd hw hf ht => subst hs; exact .inr (by simp [ht, toNat_advance hlt])
  | spanOverflow s1 hlt hs hd ht => exact .inl (by simp [ht])

/-- "The sample indices of successive samples strictly increase" (R72): the core's step in a run ends it,
faults, or goes on in Run with the cursor further. A free-running move advances because `SPB` is
positive (R67), the other two because their transition lies after the cursor. -/
theorem CoreStepped.ends_or_advances {s t : State} (h : CoreStepped s t) (hinv : RunInv s)
    (hs : CoreMoves s) (hr : atRest s = false) :
    (t.phase = .done ∨ t.fault ≠ none) ∨ CoreMoves t ∧ atRest t = false ∧ s.cur < t.cur := by
  have hbit {base : SampleIdx} {n : Nat} (hb : BitStepped s base n t)
      (hlt : s.cur.toNat < base.toNat + n) :
      (t.phase = .done ∨ t.fault ≠ none) ∨ CoreMoves t ∧ atRest t = false ∧ s.cur < t.cur := by
    obtain hfault | ⟨hrun, hfault, hhost, hcur⟩ := hb.fault_or_run
    · exact .inl (.inr hfault)
    · exact .inr ⟨⟨hfault.trans hs.1, hhost.trans hs.2⟩,
        (atRest_eq_false_iff t).mpr (.inr hrun), BitVec.lt_def.mpr (hcur ▸ hlt)⟩
  have hnext {base : SampleIdx} (hn : nextTransition s.cur s.chan.transitions = some base) (n : Nat) :
      s.cur.toNat < base.toNat + n :=
    Nat.lt_add_right n (BitVec.lt_def.mp (nextTransition_eq_some hn).2.1)
  cases h with
  | rested hp ht => exact absurd (hp.symm.trans hr) (by decide)
  | ended hp hm ht => exact .inl (.inl (by simp [ht]))
  | acquired hp base hn hb => exact hbit hb (hnext hn _)
  | freeRan hp hm hc hb =>
    have hspb : 4 ≤ s.tim.spb.toNat := by
      rw [hinv.constants hr]
      exact (deriveTiming_laws _ (hinv.legal hr)).1
    exact hbit hb (by omega)
  | relocked hp hc base hn hb => exact hbit hb (hnext hn _)

/-- A run of one step or more goes on from the state after its first step. -/
theorem run_succ_of_step {M : Host.Core} {s t : M.State} (h : M.step s = .next t) (n : Nat) :
    M.run (n + 1) s = M.run n t := by
  rw [Host.Core.run, h]

/-- Settles O60, by induction on the sample indices left after the cursor: each step uses up at least one. -/
theorem everyRunEnds : Obligations.EveryRunEnds := by
  intro s hwin hrun hs hr
  induction hleft : 2 ^ 64 - s.cur.toNat using Nat.strong_induction_on generalizing s with
  | _ left ih =>
    obtain ⟨t, ht⟩ := unfaultedMachineAlwaysSteps s hwin hs.1
    obtain hend | ⟨hs', hr', hcur⟩ := (coreStepped_of_step hs ht).ends_or_advances hrun hs hr
    · exact ⟨1, t, run_succ_of_step (M := core) ht 0, hend⟩
    · have hfewer : 2 ^ 64 - t.cur.toNat < left := by
        have := t.cur.isLt
        rw [BitVec.lt_def] at hcur
        omega
      obtain ⟨n, u, hu, hend⟩ := ih _ hfewer t (stepKeepsTheWindowInvariant s t hwin ht)
        (stepKeepsTheRunInvariant s t hrun ht) hs' hr' rfl
      exact ⟨n + 1, u, (run_succ_of_step (M := core) ht n).trans hu, hend⟩

end Sys2Proof.Machine
end

section
/-! SUPPORT. The statements about reset: what START writes under a legal configuration, and the model's reset
state as an instance of it. -/

namespace Sys2Proof.Machine

/-- START at rest under a legal configuration is the step, and resets the run context. -/
theorem step_start_of_legal {s : State} {ms : List HostMove} (hf : s.fault = none)
    (hh : s.host = .start :: ms) (hr : atRest s = true) (hc : configLegal s.cfg = true) :
    step s = .next (resetContext { s with host := ms }) := by
  have hr' : atRest { s with host := ms } = true := hr
  have hstart : settle (hostFetch .start { s with host := ms }) = start { s with host := ms } := rfl
  rw [step_of_host_cons hf hh, hstart, start, if_pos hr', if_pos hc]

/-- Settles O46: the bounds make the configuration legal, and of the fields START leaves alone only `FAULT`
has its value from a premise. -/
theorem startWritesTheResetValues : Obligations.StartWritesTheResetValues := by
  intro s ms hf hh hr hb hmax hl
  have hc : configLegal s.cfg = true := (configLegal_iff s.cfg).mpr ⟨hb, hmax, hl⟩
  rw [step_start_of_legal hf hh hr hc, resetContext, hf]

/-- The constants that the reset state holds are those of R14 for log entry 1's rates. -/
theorem deriveTiming_of_reset :
    deriveTiming State.reset.cfg State.reset.params.initialCenter = State.reset.tim := by decide

/-- Settles O53: `startWritesTheResetValues` on the created machine, whose derived constants are those of the
reset state. -/
theorem resetIsStartOfTheCreatedMachine : Obligations.ResetIsStartOfTheCreatedMachine := by
  have hstart : step { State.created with cfg := State.reset.cfg, host := [.start] } = .next
      { State.reset with tim := deriveTiming State.reset.cfg State.reset.params.initialCenter } :=
    startWritesTheResetValues _ [] rfl rfl rfl (by decide) (by decide) (by decide)
  rw [deriveTiming_of_reset] at hstart
  exact ⟨rfl, rfl, hstart⟩

end Sys2Proof.Machine
end
